-- ==== Sys2Proof/Word.lean ====
section
/-! DEFINITION. Word types of the block and their plainest arithmetic (spec 00_scope R8, R9). -/

namespace Sys2Proof

/-- A bus datum: `DATA_W` = 8 bits (R8). -/
abbrev Byte := BitVec 8

/-- A bus address: `ADDR_W` = 16 bits (R8). -/
abbrev Addr := BitVec 16

/-- A command word: 27 bits, format `CMD` (R91). -/
abbrev CommandWord := BitVec 27

/-- A response word: 17 bits, format `RSP` (R93). -/
abbrev ResponseWord := BitVec 17

/-- `lo..hi`, inclusive at both ends, on unsigned addresses (R9). -/
def inRange (lo hi a : Addr) : Bool := decide (lo ≤ a) && decide (a ≤ hi)

end Sys2Proof
end

