-- ==== Sys2Proof/Config.lean ====
section
/-! DEFINITION. What an implementation fixes and the spec leaves OPEN (R8, R39 to R43, 92_eei_decisions.md
"Parameters left open"), and the free values behind `draw` (R10). None of these constants has a body: nothing can be
proved of a value of one, so a claim holds for all of them. The parameters to which the spec gives a value stand in
Machine/Params.lean, the I/O offsets in Decode.lean. -/

namespace Sys2Proof

/-- The cartridge's state, opaque to the block (R40): a number that codes all of it. -/
structure Cart where
  hidden : Nat
deriving DecidableEq, Repr, Inhabited

/-- The timer's state (R41): the four registers its getters return, the value of `interrupt()`, and a number that
codes whatever else it holds. -/
structure Timer where
  div : Byte
  counter : Byte
  modulo : Byte
  config : Byte
  latch : Bool
  hidden : Nat
deriving DecidableEq, Repr, Inhabited

/-- The input controller's snapshot (R42): `true` is pressed, `false` is released. -/
structure Pad where
  right : Bool
  left : Bool
  up : Bool
  down : Bool
  a : Bool
  b : Bool
  select : Bool
  start : Bool
deriving DecidableEq, Repr, Inhabited

/-- `OAM_FILL - 1`. Its type is the constraint `OAM_FILL != 0` (R8, D15); log 5. -/
opaque Config.oamFillLessOne : Fin 255

/-- `OAM_FILL`, the byte every OAM cell holds after power-on and `RESET` (R8, R46, D15). -/
def Config.oamFill : Byte := BitVec.ofNat 8 (Config.oamFillLessOne.val + 1)

/-- The k-th `draw(8)` of a run (R10); log 4. -/
opaque Config.freeByte : Nat → Byte

/-- The snapshot that the k-th draw of a run gives when `Pad.update()` makes it (R42, D32); log 9. -/
opaque Config.freePad : Nat → Pad

/-- The snapshot at power-on, `draw(8)` (R46, N7); log 9. -/
opaque Config.powerOnPad : Pad

/-- The cartridge's own initial state (R46); log 8. -/
opaque Config.cartPowerOn : Cart

/-- `Cart.rom_byte(offset)` (R40). -/
opaque Config.cartRomByte : Cart → Addr → Byte

/-- `Cart.set_rom_byte(offset, val)` (R40). -/
opaque Config.cartSetRomByte : Cart → Addr → Byte → Cart

/-- `Cart.ram_byte(offset)` (R40). -/
opaque Config.cartRamByte : Cart → Addr → Byte

/-- `Cart.set_ram_byte(offset, val)` (R40). -/
opaque Config.cartSetRamByte : Cart → Addr → Byte → Cart

/-- `Cart.reset()` (R40). -/
opaque Config.cartReset : Cart → Cart

/-- The timer's own power-on state, to which `Timer.reset()` returns it (R41 (f), R46); log 7. -/
opaque Config.timerPowerOn : Timer

/-- `TIMER_RESET_LATCH` (R8, R41 (f), D28): whether the power-on state has the latch set. -/
def Config.timerResetLatch : Bool := Config.timerPowerOn.latch

/-- `Timer.step()` (R41 (d)). -/
opaque Config.timerStep : Timer → Timer

/-- `Timer.set_div(v)`, the fourth setter of the contract (R41 (e), N8). No command calls it: a store to the divider calls
`reset_div()` (R237, D19; log 7, log 19). -/
opaque Config.timerSetDiv : Timer → Byte → Timer

/-- `Timer.set_counter(v)` (R41 (e)). -/
opaque Config.timerSetCounter : Timer → Byte → Timer

/-- `Timer.set_modulo(v)` (R41 (e)). -/
opaque Config.timerSetModulo : Timer → Byte → Timer

/-- `Timer.set_config(v)` (R41 (e)). -/
opaque Config.timerSetConfig : Timer → Byte → Timer

/-- `Timer.reset_div()` (R41 (e)). -/
opaque Config.timerResetDiv : Timer → Timer

/-- What `Timer.ack_interrupt()` leaves, but for the latch (R41 (b) fixes the latch). -/
opaque Config.timerAck : Timer → Timer

/-- What `Timer.force_interrupt(b)` leaves, but for the latch (R41 (c) fixes the latch). -/
opaque Config.timerForce : Timer → Bool → Timer

end Sys2Proof
end

