-- ==== Sys2Proof/Machine/Params.lean ====
section
/-! DEFINITION. The parameters of the block to which the spec gives a value (R8, 92_eei_decisions.md "Parameters with a
chosen value that a model should keep as configuration fields"), each a named definition that the meanings use; log 12. -/

namespace Sys2Proof.Machine

/-- `COL_LAST` (R8, D3, C1). -/
def colLast : BitVec 9 := 455

/-- `LINE_LAST` (R8, D4, C2, R126). -/
def lineLast : BitVec 8 := 154

/-- `LINE_VBLANK` (R8). -/
def lineVblank : BitVec 8 := 144

/-- `COL_PRELUDE_LAST` (R8). -/
def colPreludeLast : BitVec 9 := 79

/-- `COL_ACTIVE_LAST` (R8). -/
def colActiveLast : BitVec 9 := 172

/-- `DMA_LEN` (R8). -/
def dmaLen : BitVec 16 := 160

/-- `DMA_IDLE` (R8, D14, C5). -/
def dmaIdle : BitVec 16 := 160

/-- What a gated-off OAM access does (R8, R291, R293, D5). -/
inductive OamPolicy where
  | fault | soft
deriving DecidableEq, Repr

/-- `OAM_POLICY` (R8, D5). -/
def oamPolicy : OamPolicy := .fault

/-- What a video-memory access in Active mode does (R8, R196, D16). -/
inductive VramGate where
  | draw | none
deriving DecidableEq, Repr

/-- `VRAM_GATE` (R8, D16). -/
def vramGate : VramGate := .draw

/-- `HAS_LY`: whether offset 0x44 reads back `line`, otherwise it is a shadow byte (R8, D10, C4). -/
def hasLy : Bool := true

/-- The ten registers of the video register file (R27). -/
inductive VReg where
  | ctrl | stat | scy | scx | lyc | pal0 | pal1 | pal2 | wy | wx
deriving DecidableEq, Repr

/-- `MASK_r`, the writable bits of a video register (R8, R28, D11). -/
def vregMask (r : VReg) : Byte :=
  match r with
  | .ctrl | .stat | .scy | .scx | .lyc | .pal0 | .pal1 | .pal2 | .wy | .wx => 0xff

/-- `RESET_r`, the value of each video register after power-on and `RESET` (R8, R46, D12); log 14. -/
def resetVreg : Byte := 0

/-- `RESET_*` of the two video latches (R8, R46, D12); log 14. -/
def resetLatch : Bool := false

end Sys2Proof.Machine
end

