-- ==== Sys2Proof/Machine/State.lean ====
section
/-! DEFINITION. The state of the block as plain data (R20), with the collaborators' state beside it (R39), the command
port and the response port (R90), and the state after power-on (R46, R320). INVENTORY.md lists every field. -/

namespace Sys2Proof.Machine

/-- What an address of a byte store reads as while nothing is listed for it: the stores of the block are all refilled
with zero at power-on and reset (R37, R38, R46; D16 for video memory); log 16. -/
def unlistedByte : Byte := 0

/-- A byte store (`vram`, `wram`, `zram`, `io_shadow`): offsets strictly rising, no entry equal to what an unlisted
offset reads as. -/
abbrev Memory := List Host.Cell

/-- The canonical form of a byte store. -/
abbrev Memory.wf (m : Memory) : Prop :=
  m.Pairwise (fun c d => c.1 < d.1) ∧ ∀ c ∈ m, c.2 ≠ unlistedByte

/-- The video register file (R27). -/
structure VideoRegs where
  ctrl : Byte
  stat : Byte
  scy : Byte
  scx : Byte
  lyc : Byte
  pal0 : Byte
  pal1 : Byte
  pal2 : Byte
  wy : Byte
  wx : Byte
deriving DecidableEq, Repr

/-- Five flags, one for each interrupt source (R31, R81). -/
structure SourceFlags where
  vblank : Bool
  lcd : Bool
  timer : Bool
  serial : Bool
  button : Bool
deriving DecidableEq, Repr

/-- The interrupt sources (R15, R105, R170). -/
inductive Source where
  | vblank | lcd | timer | serial | button
deriving DecidableEq, Repr

/-- Which access to OAM was not permitted (R130). -/
inductive OamAccess where
  | get | set
deriving DecidableEq, Repr

/-- `OamAccessViolation(kind, a)`: diagnostic only, in no register (R291). -/
structure OamViolation where
  kind : OamAccess
  addr : Addr
deriving DecidableEq, Repr

/-- Which bus access was unmapped (R296). -/
inductive BusAccess where
  | read | write
deriving DecidableEq, Repr

/-- `Diag(kind, a)` (R12, R296). -/
structure Diag where
  kind : BusAccess
  addr : Addr
deriving DecidableEq, Repr

/-- The response port after a command (R93). `irq` is `irq_valid` with `irq_src`, `diag` is the diagnostic side channel
with what `emit Diag` says, and `violation` is what `raise OamAccessViolation` says; log 2. -/
structure Response where
  refused : Bool
  fault : Bool
  flip : Bool
  diag : Option Diag
  irq : Option Source
  rdata : Byte
  violation : Option OamViolation
deriving DecidableEq, Repr

/-- Every field 0 (R93): the response of a command that reports nothing. -/
def Response.quiet : Response :=
  { refused := false, fault := false, flip := false, diag := none, irq := none, rdata := 0, violation := none }

/-- The state. -/
structure State where
  /-- Scanline (R21). -/
  line : BitVec 8
  /-- Position within the scanline (R22). -/
  col : BitVec 9
  /-- Sprite-attribute memory (R25); log 6. -/
  oam : Vector Byte 160
  /-- Video memory (R26). -/
  vram : Memory
  /-- Video register file (R27). -/
  vregs : VideoRegs
  /-- The vblank latch (R29). -/
  itVblank : Bool
  /-- The LCD-controller latch (R29). -/
  itLcd : Bool
  /-- I/O shadow array (R35). -/
  ioShadow : Memory
  /-- Interrupt-enable flags (R31). -/
  ie : SourceFlags
  /-- The bus address the next DMA step reads (R33). -/
  dmaSrc : BitVec 16
  /-- The OAM index the next DMA step writes (R33). -/
  dmaIdx : BitVec 16
  /-- Internal RAM (R37). -/
  wram : Memory
  /-- Zero-page RAM (R38). -/
  zram : Memory
  /-- The sticky fault flag (R34). -/
  fault : Bool
  /-- The cartridge (R40). -/
  cart : Cart
  /-- The timer (R41); its latch is `it_timer` (R30). -/
  timer : Timer
  /-- The input controller's snapshot (R42). -/
  pad : Pad
  /-- How many `Flip` events the display has received (R43); log 10. -/
  flips : Nat
  /-- The command words the environment presents, oldest first (R90); log 1. -/
  pending : List CommandWord
  /-- The response of the last command (R93); log 2. -/
  response : Response
  /-- Which draw comes next (R10); log 4. -/
  draws : Nat
deriving DecidableEq, Repr

/-- Why the machine stops. No command word leads to one: the block's own fault is state (R34, R292; log 3). -/
inductive Fault where
  /-- A windowed operation is given an address outside its window. Raised by the meanings of the `ROM`, `VRAM`, `CRAM`,
  `WRAM`, `ECHO`, `OAM`, `ZRAM`, `IOSHADOW` and `UNMAPPED` operations. No command word decodes to such an operation, and
  no rule gives it a meaning (93_implementation_defined.md, treatment rule). Safe; log 11. -/
  | operandOutsideWindow
deriving DecidableEq, Repr

/-- Why an instruction has no meaning. -/
inductive Refusal where
  /-- An instruction exec has no meaning for yet: no arm answers with it now. Safe. -/
  | notModelled (mnemonic : String)
deriving DecidableEq, Repr

/-- The state after power-on (R46, R320): no command has been executed. -/
def State.reset : State :=
  { line := 0
    col := 0
    oam := Vector.replicate 160 Config.oamFill
    vram := []
    vregs :=
      { ctrl := resetVreg, stat := resetVreg, scy := resetVreg, scx := resetVreg, lyc := resetVreg, pal0 := resetVreg
        pal1 := resetVreg, pal2 := resetVreg, wy := resetVreg, wx := resetVreg }
    itVblank := resetLatch
    itLcd := resetLatch
    ioShadow := []
    ie := { vblank := false, lcd := false, timer := false, serial := false, button := false }
    dmaSrc := 0
    dmaIdx := dmaIdle
    wram := []
    zram := []
    fault := false
    cart := Config.cartPowerOn
    timer := Config.timerPowerOn
    pad := Config.powerOnPad
    flips := 0
    pending := []
    response := Response.quiet
    draws := 0 }

end Sys2Proof.Machine
end

