-- ==== Sys2Proof/Machine/Flags.lean ====
section
/-! DEFINITION. Every flag computation: the five flags and their byte (R81), the interrupt latches (R175), the selection
of a source (R171), the button nibbles (R232), and the response word (R93). -/

namespace Sys2Proof.Machine

/-- `encode(f0..f4) = 0b000 ++ f4 ++ f3 ++ f2 ++ f1 ++ f0` (R81). -/
def encodeFlags (f : SourceFlags) : Byte :=
  0#3 ++ BitVec.ofBool f.button ++ BitVec.ofBool f.serial ++ BitVec.ofBool f.timer ++ BitVec.ofBool f.lcd ++
    BitVec.ofBool f.vblank

/-- `decode(b) = (b[0], b[1], b[2], b[3], b[4])` (R81). -/
def decodeFlags (b : Byte) : SourceFlags :=
  { vblank := b.getLsbD 0, lcd := b.getLsbD 1, timer := b.getLsbD 2, serial := b.getLsbD 3, button := b.getLsbD 4 }

/-- The latch of a source: its peek (R175). `serial` and `button` have none and are never pending (R176). -/
def latchOf (src : Source) (s : State) : Bool :=
  match src with
  | .vblank => s.itVblank
  | .lcd => s.itLcd
  | .timer => s.timer.latch
  | .serial => false
  | .button => false

/-- Acknowledge: the latch of a source becomes 0 (R175; for the timer `ack_interrupt()`, R41 (b)). -/
def ackLatch (src : Source) (s : State) : State :=
  match src with
  | .vblank => { s with itVblank := false }
  | .lcd => { s with itLcd := false }
  | .timer => { s with timer := { Config.timerAck s.timer with latch := false } }
  | .serial => s
  | .button => s

/-- Force: the latch of a source becomes the given bit (R175; for the timer `force_interrupt(b)`, R41 (c)). A forced
write to `serial` or `button` stores nothing (R176). -/
def forceLatch (src : Source) (b : Bool) (s : State) : State :=
  match src with
  | .vblank => { s with itVblank := b }
  | .lcd => { s with itLcd := b }
  | .timer => { s with timer := { Config.timerForce s.timer b with latch := b } }
  | .serial => s
  | .button => s

/-- The five latches as flags: what the interrupt-flag register shows (R246). -/
def pendingFlags (s : State) : SourceFlags :=
  { vblank := latchOf .vblank s, lcd := latchOf .lcd s, timer := latchOf .timer s, serial := latchOf .serial s
    button := latchOf .button s }

/-- `Select()` (R171): the first of vblank, lcd, timer that is both enabled and latched. -/
def select (s : State) : Option Source :=
  if s.ie.vblank && latchOf .vblank s then some .vblank
  else if s.ie.lcd && latchOf .lcd s then some .lcd
  else if s.ie.timer && latchOf .timer s then some .timer
  else none

/-- `irq_src`: the source's bit number in the flag bytes (R105). -/
def sourceCode (src : Source) : BitVec 3 :=
  match src with
  | .vblank => 0
  | .lcd => 1
  | .timer => 2
  | .serial => 3
  | .button => 4

/-- `n(x)`: a pressed button reads 0, a released one 1 (R232). -/
def lineLevel (pressed : Bool) : BitVec 1 := BitVec.ofBool (!pressed)

/-- `dir`: bit 3 down to bit 0 are down, up, left, right (R232, D18). -/
def directionNibble (p : Pad) : BitVec 4 := lineLevel p.down ++ lineLevel p.up ++ lineLevel p.left ++ lineLevel p.right

/-- `act`: bit 3 down to bit 0 are start, select, b, a (R232, D18). -/
def actionNibble (p : Pad) : BitVec 4 := lineLevel p.start ++ lineLevel p.select ++ lineLevel p.b ++ lineLevel p.a

/-- The byte the input matrix reads as, from its shadow byte and the snapshot (R232, D18); log 18. -/
def inputMatrixByte (shadow : Byte) (p : Pad) : Byte :=
  0#4 ++
    ((if shadow.getLsbD 4 = false then directionNibble p else 0#4) |||
      (if shadow.getLsbD 5 = false then actionNibble p else 0#4))

/-- The response word `rw` (R93). -/
def Response.word (r : Response) : ResponseWord :=
  BitVec.ofBool r.refused ++ BitVec.ofBool r.fault ++ BitVec.ofBool r.flip ++ BitVec.ofBool r.diag.isSome ++
    BitVec.ofBool r.irq.isSome ++ (match r.irq with | some src => sourceCode src | none => 0#3) ++ 0#1 ++ r.rdata

end Sys2Proof.Machine
end

