-- ==== Sys2Proof/Machine/Operands.lean ====
section
/-! DEFINITION. The operands the block assembles from command bits, all of them (R98). -/

namespace Sys2Proof.Machine

/-- A collaborator or RAM offset: the address minus the base of its window (R80, R98 (a), D17). -/
def windowOffset (base a : Addr) : Addr := a - base

/-- The offset of a byte in a store, as the store's key. -/
def storeIndex (base a : Addr) : Nat := (windowOffset base a).toNat

/-- The OAM index `a & 0xff` (R80, R98 (b), R131). -/
def oamIndex (a : Addr) : Nat := (a &&& 0xff).toNat

/-- The I/O offset `a[7:0]` (R98 (c)), as a key of the shadow array. -/
def ioIndex (a : Addr) : Nat := (a.extractLsb' 0 8).toNat

/-- The DMA source address of a page byte, `src ++ 0x00` (R79, R98 (d), R150). -/
def dmaSourceOf (page : Byte) : Addr := page ++ 0#8

/-- The page a source address lies in, `dma_src[15:8]` (R79, R153). -/
def dmaPageOf (src : Addr) : Byte := src.extractLsb' 8 8

end Sys2Proof.Machine
end

