-- ==== Sys2Proof/Syntax.lean ====
section
/-! DEFINITION. The operations of the block: one constructor for each mnemonic of spec/opcode_table.json (R100). An
operation that a single address selects carries no address; one that a window selects carries the address (R98, R100).
Fields a command does not use are no part of the operation (R94). -/

namespace Sys2Proof

/-- What an address selects (R95, R192, R230): a window of the map, a register of the I/O window, the shadow, the
interrupt-enable register, or nothing. -/
inductive Target where
  | rom | vram | cram | wram | echo | oam | zram | ie | unmapped
  | p1 | div | tima | tma | tac | irqFlag | ctrl | stat | scy | scx | ly | lyc | dma | pal0 | pal1 | pal2 | wy | wx
  | ioShadow
deriving DecidableEq, Repr

/-- The operations. `a` is the bus address, `v` the byte of a `STORE`. -/
inductive Instr where
  | step | irqPeek | irqAck | reset
  /-- Command code 6 (R97, R101). -/
  | reserved6
  /-- Command code 7 (R97, R101). -/
  | reserved7
  | fetchRom (a : Addr) | storeRom (a : Addr) (v : Byte)
  | fetchVram (a : Addr) | storeVram (a : Addr) (v : Byte)
  | fetchCram (a : Addr) | storeCram (a : Addr) (v : Byte)
  | fetchWram (a : Addr) | storeWram (a : Addr) (v : Byte)
  | fetchEcho (a : Addr) | storeEcho (a : Addr) (v : Byte)
  | fetchOam (a : Addr) | storeOam (a : Addr) (v : Byte)
  | fetchZram (a : Addr) | storeZram (a : Addr) (v : Byte)
  | fetchIoShadow (a : Addr) | storeIoShadow (a : Addr) (v : Byte)
  | fetchUnmapped (a : Addr) | storeUnmapped (a : Addr) (v : Byte)
  | fetchP1 | storeP1 (v : Byte)
  | fetchDiv | storeDiv (v : Byte)
  | fetchTima | storeTima (v : Byte)
  | fetchTma | storeTma (v : Byte)
  | fetchTac | storeTac (v : Byte)
  | fetchIf | storeIf (v : Byte)
  | fetchCtrl | storeCtrl (v : Byte)
  | fetchStat | storeStat (v : Byte)
  | fetchScy | storeScy (v : Byte)
  | fetchScx | storeScx (v : Byte)
  | fetchLy | storeLy (v : Byte)
  | fetchLyc | storeLyc (v : Byte)
  | fetchDma | storeDma (v : Byte)
  | fetchPal0 | storePal0 (v : Byte)
  | fetchPal1 | storePal1 (v : Byte)
  | fetchPal2 | storePal2 (v : Byte)
  | fetchWy | storeWy (v : Byte)
  | fetchWx | storeWx (v : Byte)
  | fetchIe | storeIe (v : Byte)
deriving DecidableEq, Repr

end Sys2Proof
end

