-- ==== Sys2Proof/WellFormed.lean ====
section
/-! DEFINITION. The addresses each target covers, as the spec lists them (R48, R100, R192), and what makes an operation
well formed: its address lies in its window. -/

namespace Sys2Proof

/-- The addresses of a target, inclusive ranges (R48, R100, R192). -/
def Target.covers (t : Target) (a : Addr) : Bool :=
  match t with
  | .rom => inRange 0x0000 0x7fff a
  | .vram => inRange 0x8000 0x9fff a
  | .cram => inRange 0xa000 0xbfff a
  | .wram => inRange 0xc000 0xdfff a
  | .echo => inRange 0xe000 0xfdff a
  | .oam => inRange 0xfe00 0xfe9f a
  | .zram => inRange 0xff80 0xfffe a
  | .ie => inRange 0xffff 0xffff a
  | .unmapped => inRange 0xfea0 0xfeff a || inRange 0xff4c 0xff7f a
  | .ioShadow => inRange 0xff01 0xff03 a || inRange 0xff08 0xff0e a || inRange 0xff10 0xff3f a
  | .p1 => inRange 0xff00 0xff00 a
  | .div => inRange 0xff04 0xff04 a
  | .tima => inRange 0xff05 0xff05 a
  | .tma => inRange 0xff06 0xff06 a
  | .tac => inRange 0xff07 0xff07 a
  | .irqFlag => inRange 0xff0f 0xff0f a
  | .ctrl => inRange 0xff40 0xff40 a
  | .stat => inRange 0xff41 0xff41 a
  | .scy => inRange 0xff42 0xff42 a
  | .scx => inRange 0xff43 0xff43 a
  | .ly => inRange 0xff44 0xff44 a
  | .lyc => inRange 0xff45 0xff45 a
  | .dma => inRange 0xff46 0xff46 a
  | .pal0 => inRange 0xff47 0xff47 a
  | .pal1 => inRange 0xff48 0xff48 a
  | .pal2 => inRange 0xff49 0xff49 a
  | .wy => inRange 0xff4a 0xff4a a
  | .wx => inRange 0xff4b 0xff4b a

/-- An operation that a window selects has an address of that window; every other operation is well formed. -/
def Instr.wellFormed (i : Instr) : Bool :=
  match i with
  | .step | .irqPeek | .irqAck | .reset | .reserved6 | .reserved7 => true
  | .fetchRom a | .storeRom a _ => Target.covers .rom a
  | .fetchVram a | .storeVram a _ => Target.covers .vram a
  | .fetchCram a | .storeCram a _ => Target.covers .cram a
  | .fetchWram a | .storeWram a _ => Target.covers .wram a
  | .fetchEcho a | .storeEcho a _ => Target.covers .echo a
  | .fetchOam a | .storeOam a _ => Target.covers .oam a
  | .fetchZram a | .storeZram a _ => Target.covers .zram a
  | .fetchIoShadow a | .storeIoShadow a _ => Target.covers .ioShadow a
  | .fetchUnmapped a | .storeUnmapped a _ => Target.covers .unmapped a
  | .fetchP1 | .storeP1 _ | .fetchDiv | .storeDiv _ | .fetchTima | .storeTima _ | .fetchTma | .storeTma _ | .fetchTac | .storeTac _ | .fetchIf | .storeIf _ | .fetchCtrl | .storeCtrl _ | .fetchStat | .storeStat _ | .fetchScy | .storeScy _ | .fetchScx | .storeScx _ | .fetchLy | .storeLy _ | .fetchLyc | .storeLyc _ | .fetchDma | .storeDma _ | .fetchPal0 | .storePal0 _ | .fetchPal1 | .storePal1 _ | .fetchPal2 | .storePal2 _ | .fetchWy | .storeWy _ | .fetchWx | .storeWx _ | .fetchIe | .storeIe _ => true

end Sys2Proof
end

