-- ==== Sys2Proof/Machine/Ops.lean ====
section
/-! DEFINITION. The shared operations: byte stores, draws, the events of a command (R12), taking `OamAccessViolation`
(R291), refusing a command (R97), and what surrounds the effect of every command. The block has no return from an
exception: only power-on leaves the faulted state (R292, R301). -/

namespace Sys2Proof.Machine

/-- `byte(offset)` (R37): the byte last stored there, or what an unlisted offset reads as. -/
def Memory.byte (m : Memory) (o : Nat) : Byte :=
  match m with
  | [] => unlistedByte
  | c :: rest => if c.1 = o then c.2 else Memory.byte rest o

/-- A store without its entry for an offset. -/
def Memory.erase (m : Memory) (o : Nat) : Memory := m.filter fun c => c.1 != o

/-- A store with an entry put where the offsets stay rising. -/
def Memory.insert (m : Memory) (o : Nat) (v : Byte) : Memory :=
  match m with
  | [] => [(o, v)]
  | c :: rest => if o < c.1 then (o, v) :: c :: rest else c :: Memory.insert rest o v

/-- `set_byte(offset, val)` (R37): changes only the byte at the offset. The canonical form is kept: what an unlisted
offset reads as is not listed. -/
def Memory.write (m : Memory) (o : Nat) (v : Byte) : Memory :=
  if v = unlistedByte then Memory.erase m o else Memory.insert (Memory.erase m o) o v

/-- What an operation inside a command gives: a result and the state, or the state at the point where `raise` ended the
command (R12). -/
inductive Run (α : Type) where
  | ok (x : α) (s : State)
  | stopped (s : State)
deriving Repr

/-- The next operation of the same command, unless the command has ended. -/
def Run.bind {α β : Type} (r : Run α) (f : α → State → Run β) : Run β :=
  match r with
  | .ok x s => f x s
  | .stopped s => .stopped s

/-- `draw(8)` (R10): a byte nothing is known of, fresh each time; log 4. -/
def drawByte (s : State) : Run Byte := .ok (Config.freeByte s.draws) { s with draws := s.draws + 1 }

/-- `emit Flip`: `Display.flip()` once, and `flip = 1` in the response (R12, R125). -/
def emitFlip (s : State) : State :=
  { s with flips := s.flips + 1, response := { s.response with flip := true } }

/-- `emit Diag(kind, a)` (R12, R296). -/
def emitDiag (kind : BusAccess) (a : Addr) (s : State) : State :=
  { s with response := { s.response with diag := some { kind := kind, addr := a } } }

/-- `raise OamAccessViolation(kind, a)`: the sticky fault flag is set and the response reports it; the command ends here
and what was written before stays (R12, R156, R291). -/
def raiseViolation (kind : OamAccess) (a : Addr) (s : State) : State :=
  { s with
    fault := true
    response := { s.response with fault := true, violation := some { kind := kind, addr := a } } }

/-- The response of a refused command: every field 0 but `refused` and the value of the fault flag (R93, R97). -/
def refusedResponse (fault : Bool) : Response := { Response.quiet with refused := true, fault := fault }

/-- `refuse`: no state change, no collaborator call, and a refusal on the response port (R12, R97); log 3. -/
def refuse (s : State) : State := { s with response := refusedResponse s.fault }

/-- The response port is clear while a command runs. -/
def beginCommand (s : State) : State := { s with response := Response.quiet }

/-- The end of a command that gives a byte: it is `rdata`. A command that faulted has `rdata = 0` (R93, R291). -/
def complete (r : Run Byte) : Host.Outcome State Fault Refusal :=
  match r with
  | .ok b s => .next { s with response := { s.response with rdata := b } }
  | .stopped s => .next s

/-- A command whose effect is `body`: refused while the fault flag is 1 (R97 (b), R292). -/
def runCommand (body : State → Run Byte) (s : State) : Host.Outcome State Fault Refusal :=
  if s.fault then .next (refuse s) else complete (body (beginCommand s))

/-- A `FETCH`: `rdata` is the byte read (R190). -/
def runFetch (read : State → Run Byte) (s : State) : Host.Outcome State Fault Refusal := runCommand read s

/-- A `STORE` or a command without a byte: `rdata` is 0 (R93, R191). -/
def runEffect (effect : State → Run Unit) (s : State) : Host.Outcome State Fault Refusal :=
  runCommand (fun u => (effect u).bind fun _ t => .ok 0 t) s

/-- A `STORE` that cannot fault. -/
def runStore (write : State → State) (s : State) : Host.Outcome State Fault Refusal :=
  runEffect (fun u => .ok () (write u)) s

/-- A windowed operation: its address lies in its window, or it is no operation of the block; log 11. -/
def inWindow (t : Target) (a : Addr) (run : Host.Outcome State Fault Refusal) : Host.Outcome State Fault Refusal :=
  if t.covers a then run else .fault .operandOutsideWindow

/-- The command the environment presents next, and the state with it taken from the port; log 1. -/
def takeCommand (s : State) : Option (CommandWord × State) :=
  match s.pending with
  | [] => none
  | cw :: rest => some (cw, { s with pending := rest })

/-- A command word put before those already waiting at the port; log 1. -/
def presentCommand (cw : CommandWord) (s : State) : State := { s with pending := cw :: s.pending }

end Sys2Proof.Machine
end

