-- ==== Sys2Proof/Machine/Arbiter.lean ====
section
/-! DEFINITION. The interrupt priority arbiter (42_interrupt_arbiter.md): `IRQ_PEEK` and `IRQ_ACK`. The selection and the
latches' accessors are in Flags.lean. -/

namespace Sys2Proof.Machine

/-- `respond irq_valid, irq_src` (R93, R172, R173). -/
def respondIrq (r : Option Source) (s : State) : State := { s with response := { s.response with irq := r } }

/-- The winning source's latch is cleared, and no other (R173, R174). -/
def ackSelected (r : Option Source) (s : State) : State :=
  match r with
  | some src => ackLatch src s
  | none => s

/-- `IRQ_PEEK` (R172). -/
def execIrqPeek (s : State) : Host.Outcome State Fault Refusal :=
  runEffect (fun u => .ok () (respondIrq (select u) u)) s

/-- `IRQ_ACK` (R173). -/
def execIrqAck (s : State) : Host.Outcome State Fault Refusal :=
  runEffect (fun u => .ok () (respondIrq (select u) (ackSelected (select u) u))) s

end Sys2Proof.Machine
end

