-- ==== Sys2Proof/Decode.lean ====
section
/-! DEFINITION. The decoder, in the two stages of R95, and the encoder. A command word is 27 bits: `op[26:24]`,
`addr[23:8]`, `data[7:0]` (R91). Decoding never depends on state and is total (R95, R106); bits that are no command word
(more than 27) are rejected by name. -/

namespace Sys2Proof

/-- `OFF_P1` (R230, D9); log 13. -/
def offP1 : BitVec 8 := 0x00
/-- `OFF_DIV` (R230, D9); log 13. -/
def offDiv : BitVec 8 := 0x04
/-- `OFF_TIMA` (R230, D9); log 13. -/
def offTima : BitVec 8 := 0x05
/-- `OFF_TMA` (R230, D9); log 13. -/
def offTma : BitVec 8 := 0x06
/-- `OFF_TAC` (R230, D9); log 13. -/
def offTac : BitVec 8 := 0x07
/-- `OFF_IF` (R230, D9); log 13. -/
def offIf : BitVec 8 := 0x0f
/-- `OFF_CTRL` (R230, D9); log 13. -/
def offCtrl : BitVec 8 := 0x40
/-- `OFF_STAT` (R230, D9); log 13. -/
def offStat : BitVec 8 := 0x41
/-- `OFF_SCY` (R230, D9); log 13. -/
def offScy : BitVec 8 := 0x42
/-- `OFF_SCX` (R230, D9); log 13. -/
def offScx : BitVec 8 := 0x43
/-- `OFF_LY` (R230, D9); log 13. -/
def offLy : BitVec 8 := 0x44
/-- `OFF_LYC` (R230, D9); log 13. -/
def offLyc : BitVec 8 := 0x45
/-- `OFF_DMA` (R230, D9); log 13. -/
def offDma : BitVec 8 := 0x46
/-- `OFF_PAL0` (R230, D9); log 13. -/
def offPal0 : BitVec 8 := 0x47
/-- `OFF_PAL1` (R230, D9); log 13. -/
def offPal1 : BitVec 8 := 0x48
/-- `OFF_PAL2` (R230, D9); log 13. -/
def offPal2 : BitVec 8 := 0x49
/-- `OFF_WY` (R230, D9); log 13. -/
def offWy : BitVec 8 := 0x4a
/-- `OFF_WX` (R230, D9); log 13. -/
def offWx : BitVec 8 := 0x4b

/-- The lookup of an I/O offset: an intercepted offset selects its register, any other the shadow (R95, R207, R230). -/
def ioTargetOf (o : BitVec 8) : Target :=
  if o = offP1 then .p1
  else if o = offDiv then .div
  else if o = offTima then .tima
  else if o = offTma then .tma
  else if o = offTac then .tac
  else if o = offIf then .irqFlag
  else if o = offCtrl then .ctrl
  else if o = offStat then .stat
  else if o = offScy then .scy
  else if o = offScx then .scx
  else if o = offLy then .ly
  else if o = offLyc then .lyc
  else if o = offDma then .dma
  else if o = offPal0 then .pal0
  else if o = offPal1 then .pal1
  else if o = offPal2 then .pal2
  else if o = offWy then .wy
  else if o = offWx then .wx
  else .ioShadow

/-- Stage 2: the window of the memory map that holds the address, in the source's order (R95, R192); no window is the
unmapped operation. -/
def targetOf (a : Addr) : Target :=
  if inRange 0x0000 0x7fff a then .rom
  else if inRange 0x8000 0x9fff a then .vram
  else if inRange 0xa000 0xbfff a then .cram
  else if inRange 0xc000 0xdfff a then .wram
  else if inRange 0xe000 0xfdff a then .echo
  else if inRange 0xfe00 0xfe9f a then .oam
  else if inRange 0xff00 0xff4b a then ioTargetOf (a.extractLsb' 0 8)
  else if inRange 0xff80 0xfffe a then .zram
  else if a = 0xffff then .ie
  else .unmapped

/-- `cw[26:24]` (R91). -/
def CommandWord.op (cw : CommandWord) : BitVec 3 := cw.extractLsb' 24 3

/-- `cw[23:8]` (R91). -/
def CommandWord.addr (cw : CommandWord) : Addr := cw.extractLsb' 8 16

/-- `cw[7:0]` (R91). -/
def CommandWord.data (cw : CommandWord) : Byte := cw.extractLsb' 0 8

/-- `FETCH.<target>` at an address (R95). -/
def fetchOf (t : Target) (a : Addr) : Instr :=
  match t with
  | .rom => .fetchRom a
  | .vram => .fetchVram a
  | .cram => .fetchCram a
  | .wram => .fetchWram a
  | .echo => .fetchEcho a
  | .oam => .fetchOam a
  | .zram => .fetchZram a
  | .ioShadow => .fetchIoShadow a
  | .unmapped => .fetchUnmapped a
  | .p1 => .fetchP1
  | .div => .fetchDiv
  | .tima => .fetchTima
  | .tma => .fetchTma
  | .tac => .fetchTac
  | .irqFlag => .fetchIf
  | .ctrl => .fetchCtrl
  | .stat => .fetchStat
  | .scy => .fetchScy
  | .scx => .fetchScx
  | .ly => .fetchLy
  | .lyc => .fetchLyc
  | .dma => .fetchDma
  | .pal0 => .fetchPal0
  | .pal1 => .fetchPal1
  | .pal2 => .fetchPal2
  | .wy => .fetchWy
  | .wx => .fetchWx
  | .ie => .fetchIe

/-- `STORE.<target>` of a byte at an address (R95). -/
def storeOf (t : Target) (a : Addr) (v : Byte) : Instr :=
  match t with
  | .rom => .storeRom a v
  | .vram => .storeVram a v
  | .cram => .storeCram a v
  | .wram => .storeWram a v
  | .echo => .storeEcho a v
  | .oam => .storeOam a v
  | .zram => .storeZram a v
  | .ioShadow => .storeIoShadow a v
  | .unmapped => .storeUnmapped a v
  | .p1 => .storeP1 v
  | .div => .storeDiv v
  | .tima => .storeTima v
  | .tma => .storeTma v
  | .tac => .storeTac v
  | .irqFlag => .storeIf v
  | .ctrl => .storeCtrl v
  | .stat => .storeStat v
  | .scy => .storeScy v
  | .scx => .storeScx v
  | .ly => .storeLy v
  | .lyc => .storeLyc v
  | .dma => .storeDma v
  | .pal0 => .storePal0 v
  | .pal1 => .storePal1 v
  | .pal2 => .storePal2 v
  | .wy => .storeWy v
  | .wx => .storeWx v
  | .ie => .storeIe v

/-- Stage 1 and stage 2 (R92, R95). -/
def decode (cw : CommandWord) : Instr :=
  if CommandWord.op cw = 0 then .step
  else if CommandWord.op cw = 1 then fetchOf (targetOf (CommandWord.addr cw)) (CommandWord.addr cw)
  else if CommandWord.op cw = 2 then
    storeOf (targetOf (CommandWord.addr cw)) (CommandWord.addr cw) (CommandWord.data cw)
  else if CommandWord.op cw = 3 then .irqPeek
  else if CommandWord.op cw = 4 then .irqAck
  else if CommandWord.op cw = 5 then .reset
  else if CommandWord.op cw = 6 then .reserved6
  else .reserved7

/-- Why bits are no command. -/
inductive DecodeError where
  /-- A bit above bit 26 is set: a command word has 27 bits (R91, R96). Safe: nothing runs. -/
  | widerThanCommandWord
deriving DecidableEq, Repr

/-- Any bits, given as a number: a command, or the reason they are none (R91, R96). -/
def decodeBits (w : Nat) : Except DecodeError Instr :=
  if w < 2 ^ 27 then .ok (decode (BitVec.ofNat 27 w)) else .error .widerThanCommandWord

/-- The instruction the decoder reads from `nbits` bits `w`, the bits above them 0. -/
def decodeTableWord (nbits w : Nat) : Option Instr :=
  match decodeBits (w % 2 ^ nbits) with
  | .ok i => some i
  | .error _ => none

/-- A command word from its three fields (R91). -/
def CommandWord.mk (op : BitVec 3) (a : Addr) (v : Byte) : CommandWord := op ++ a ++ v

/-- The address of an I/O offset: `0xff` above it (R95). -/
def ioAddr (o : BitVec 8) : Addr := 0xff#8 ++ o

/-- The command word of an operation, its unused fields 0 (R91, R92, R94, R230). -/
def encode (i : Instr) : CommandWord :=
  match i with
  | .step => CommandWord.mk 0 0 0
  | .irqPeek => CommandWord.mk 3 0 0
  | .irqAck => CommandWord.mk 4 0 0
  | .reset => CommandWord.mk 5 0 0
  | .reserved6 => CommandWord.mk 6 0 0
  | .reserved7 => CommandWord.mk 7 0 0
  | .fetchRom a => CommandWord.mk 1 a 0
  | .storeRom a v => CommandWord.mk 2 a v
  | .fetchVram a => CommandWord.mk 1 a 0
  | .storeVram a v => CommandWord.mk 2 a v
  | .fetchCram a => CommandWord.mk 1 a 0
  | .storeCram a v => CommandWord.mk 2 a v
  | .fetchWram a => CommandWord.mk 1 a 0
  | .storeWram a v => CommandWord.mk 2 a v
  | .fetchEcho a => CommandWord.mk 1 a 0
  | .storeEcho a v => CommandWord.mk 2 a v
  | .fetchOam a => CommandWord.mk 1 a 0
  | .storeOam a v => CommandWord.mk 2 a v
  | .fetchZram a => CommandWord.mk 1 a 0
  | .storeZram a v => CommandWord.mk 2 a v
  | .fetchIoShadow a => CommandWord.mk 1 a 0
  | .storeIoShadow a v => CommandWord.mk 2 a v
  | .fetchUnmapped a => CommandWord.mk 1 a 0
  | .storeUnmapped a v => CommandWord.mk 2 a v
  | .fetchP1 => CommandWord.mk 1 (ioAddr offP1) 0
  | .storeP1 v => CommandWord.mk 2 (ioAddr offP1) v
  | .fetchDiv => CommandWord.mk 1 (ioAddr offDiv) 0
  | .storeDiv v => CommandWord.mk 2 (ioAddr offDiv) v
  | .fetchTima => CommandWord.mk 1 (ioAddr offTima) 0
  | .storeTima v => CommandWord.mk 2 (ioAddr offTima) v
  | .fetchTma => CommandWord.mk 1 (ioAddr offTma) 0
  | .storeTma v => CommandWord.mk 2 (ioAddr offTma) v
  | .fetchTac => CommandWord.mk 1 (ioAddr offTac) 0
  | .storeTac v => CommandWord.mk 2 (ioAddr offTac) v
  | .fetchIf => CommandWord.mk 1 (ioAddr offIf) 0
  | .storeIf v => CommandWord.mk 2 (ioAddr offIf) v
  | .fetchCtrl => CommandWord.mk 1 (ioAddr offCtrl) 0
  | .storeCtrl v => CommandWord.mk 2 (ioAddr offCtrl) v
  | .fetchStat => CommandWord.mk 1 (ioAddr offStat) 0
  | .storeStat v => CommandWord.mk 2 (ioAddr offStat) v
  | .fetchScy => CommandWord.mk 1 (ioAddr offScy) 0
  | .storeScy v => CommandWord.mk 2 (ioAddr offScy) v
  | .fetchScx => CommandWord.mk 1 (ioAddr offScx) 0
  | .storeScx v => CommandWord.mk 2 (ioAddr offScx) v
  | .fetchLy => CommandWord.mk 1 (ioAddr offLy) 0
  | .storeLy v => CommandWord.mk 2 (ioAddr offLy) v
  | .fetchLyc => CommandWord.mk 1 (ioAddr offLyc) 0
  | .storeLyc v => CommandWord.mk 2 (ioAddr offLyc) v
  | .fetchDma => CommandWord.mk 1 (ioAddr offDma) 0
  | .storeDma v => CommandWord.mk 2 (ioAddr offDma) v
  | .fetchPal0 => CommandWord.mk 1 (ioAddr offPal0) 0
  | .storePal0 v => CommandWord.mk 2 (ioAddr offPal0) v
  | .fetchPal1 => CommandWord.mk 1 (ioAddr offPal1) 0
  | .storePal1 v => CommandWord.mk 2 (ioAddr offPal1) v
  | .fetchPal2 => CommandWord.mk 1 (ioAddr offPal2) 0
  | .storePal2 v => CommandWord.mk 2 (ioAddr offPal2) v
  | .fetchWy => CommandWord.mk 1 (ioAddr offWy) 0
  | .storeWy v => CommandWord.mk 2 (ioAddr offWy) v
  | .fetchWx => CommandWord.mk 1 (ioAddr offWx) 0
  | .storeWx v => CommandWord.mk 2 (ioAddr offWx) v
  | .fetchIe => CommandWord.mk 1 0xffff 0
  | .storeIe v => CommandWord.mk 2 0xffff v

end Sys2Proof
end

