-- ==== Sys2Proof/Machine/Video.lean ====
section
/-! DEFINITION. The video timing controller (40_video_timing.md): the tick, the display mode, the OAM gate and its
accessors, the register file accessors. These are micro-operations: the operations of the command port that use them
stand in Windows.lean, Io.lean, Dma.lean and Control.lean. -/

namespace Sys2Proof.Machine

/-- The display modes (R15, R127). -/
inductive DisplayMode where
  | prelude | active | hblank | vblank
deriving DecidableEq, Repr

/-- The mode of a position (R127): a pure function, never stored (R129). -/
def modeAt (line : BitVec 8) (col : BitVec 9) : DisplayMode :=
  if lineVblank ≤ line then .vblank
  else if col ≤ colPreludeLast then .prelude
  else if col ≤ colActiveLast then .active
  else .hblank

/-- `Mode()` (R127). -/
def mode (s : State) : DisplayMode := modeAt s.line s.col

/-- OAM is accessible: the mode is HBlank or VBlank (R128, R130). -/
def oamOpen (s : State) : Bool :=
  match mode s with
  | .prelude => false
  | .active => false
  | .hblank => true
  | .vblank => true

/-- `line <- n`. -/
def setLine (n : BitVec 8) (s : State) : State := { s with line := n }

/-- `col <- n`. -/
def setCol (n : BitVec 9) (s : State) : State := { s with col := n }

/-- The raise of the vblank latch (R123). -/
def raiseVblank (s : State) : State := { s with itVblank := true }

/-- The raise of the LCD-controller latch (R124). -/
def raiseLcd (s : State) : State := { s with itLcd := true }

/-- On entering line 144: the frame-complete notification and the vblank latch (R121, R123, R125). -/
def enterLine (s : State) : State := if s.line = lineVblank then raiseVblank (emitFlip s) else s

/-- The next scanline, or line 0 after the last (R121, R126). -/
def advanceLine (s : State) : State :=
  if s.line < lineLast then enterLine (setLine (s.line + 1) s) else setLine 0 s

/-- The line-compare, on the value just written to `line` (R124, D8); log 20. -/
def compareLine (s : State) : State := if s.line = s.vregs.lyc then raiseLcd s else s

/-- `VIDEO.TICK` (R121). -/
def videoTick (s : State) : State :=
  if s.col < colLast then setCol (s.col + 1) s else compareLine (advanceLine (setCol 0 s))

/-- `oam[i]` for an index below 160, and 0 above (R131, R133, D22); log 23. -/
def oamByte (s : State) (i : Nat) : Byte := if h : i < 160 then s.oam[i] else 0

/-- `oam[i] <- v` for an index below 160, and nothing above (R132, R133, D22). -/
def setOamByte (i : Nat) (v : Byte) (s : State) : State :=
  if h : i < 160 then { s with oam := s.oam.set i v } else s

/-- `OamGet(a)` (R131); under the policy `soft` a gated-off read is a draw (R293). -/
def oamGet (a : Addr) (s : State) : Run Byte :=
  if oamOpen s then .ok (oamByte s (oamIndex a)) s
  else
    match oamPolicy with
    | .fault => .stopped (raiseViolation .get a s)
    | .soft => drawByte s

/-- `OamSet(a, v)` (R132); under the policy `soft` a gated-off write does nothing (R293). -/
def oamSet (a : Addr) (v : Byte) (s : State) : Run Unit :=
  if oamOpen s then .ok () (setOamByte (oamIndex a) v s)
  else
    match oamPolicy with
    | .fault => .stopped (raiseViolation .set a s)
    | .soft => .ok () s

/-- A video-memory access is gated: the mode is Active (R128, R196); log 15. -/
def vramGated (s : State) : Bool :=
  match vramGate with
  | .draw => decide (mode s = .active)
  | .none => false

/-- `VregGet(r)` (R28, R134). -/
def vregGet (r : VReg) (s : State) : Byte :=
  match r with
  | .ctrl => s.vregs.ctrl
  | .stat => s.vregs.stat
  | .scy => s.vregs.scy
  | .scx => s.vregs.scx
  | .lyc => s.vregs.lyc
  | .pal0 => s.vregs.pal0
  | .pal1 => s.vregs.pal1
  | .pal2 => s.vregs.pal2
  | .wy => s.vregs.wy
  | .wx => s.vregs.wx

/-- `VregSet(r, v)`: `r <- v & MASK_r`, with no other effect and no comparison (R28, R134). -/
def vregSet (r : VReg) (v : Byte) (s : State) : State :=
  let b := v &&& vregMask r
  match r with
  | .ctrl => { s with vregs := { s.vregs with ctrl := b } }
  | .stat => { s with vregs := { s.vregs with stat := b } }
  | .scy => { s with vregs := { s.vregs with scy := b } }
  | .scx => { s with vregs := { s.vregs with scx := b } }
  | .lyc => { s with vregs := { s.vregs with lyc := b } }
  | .pal0 => { s with vregs := { s.vregs with pal0 := b } }
  | .pal1 => { s with vregs := { s.vregs with pal1 := b } }
  | .pal2 => { s with vregs := { s.vregs with pal2 := b } }
  | .wy => { s with vregs := { s.vregs with wy := b } }
  | .wx => { s with vregs := { s.vregs with wx := b } }

end Sys2Proof.Machine
end

