-- ==== Sys2Proof/Machine/Windows.lean ====
section
/-! DEFINITION. The windows of the memory map (43_bus_dispatch.md): what a read and a write of each does, and the
`FETCH` and `STORE` operations over them. A read is shared with the DMA engine's source read (R190). -/

namespace Sys2Proof.Machine

/-- `Cart.rom_byte(a)` (R193). -/
def readRom (a : Addr) (s : State) : Run Byte := .ok (Config.cartRomByte s.cart (windowOffset 0x0000 a)) s

/-- `Cart.set_rom_byte(a, v)` (R194). -/
def writeRom (a : Addr) (v : Byte) (s : State) : State :=
  { s with cart := Config.cartSetRomByte s.cart (windowOffset 0x0000 a) v }

/-- `Cart.ram_byte(a - 0xa000)` (R197). -/
def readCram (a : Addr) (s : State) : Run Byte := .ok (Config.cartRamByte s.cart (windowOffset 0xa000 a)) s

/-- `Cart.set_ram_byte(a - 0xa000, v)` (R198). -/
def writeCram (a : Addr) (v : Byte) (s : State) : State :=
  { s with cart := Config.cartSetRamByte s.cart (windowOffset 0xa000 a) v }

/-- `vram[a - 0x8000]`, or a draw in Active mode (R195, R196). -/
def readVram (a : Addr) (s : State) : Run Byte :=
  if vramGated s then drawByte s else .ok (Memory.byte s.vram (storeIndex 0x8000 a)) s

/-- `vram[o] <- b`. -/
def setVram (o : Nat) (b : Byte) (s : State) : State := { s with vram := Memory.write s.vram o b }

/-- `vram[a - 0x8000] <- v`, or a draw in Active mode (R196, R199). -/
def writeVram (a : Addr) (v : Byte) (s : State) : Run Unit :=
  if vramGated s then (drawByte s).bind fun b t => .ok () (setVram (storeIndex 0x8000 a) b t)
  else .ok () (setVram (storeIndex 0x8000 a) v s)

/-- `wram[o] <- b`. -/
def setWram (o : Nat) (b : Byte) (s : State) : State := { s with wram := Memory.write s.wram o b }

/-- `wram[a - 0xc000]` (R201). -/
def readWram (a : Addr) (s : State) : Run Byte := .ok (Memory.byte s.wram (storeIndex 0xc000 a)) s

/-- `wram[a - 0xc000] <- v` (R202). -/
def writeWram (a : Addr) (v : Byte) (s : State) : State := setWram (storeIndex 0xc000 a) v s

/-- `wram[a - 0xe000]` (R203). -/
def readEcho (a : Addr) (s : State) : Run Byte := .ok (Memory.byte s.wram (storeIndex 0xe000 a)) s

/-- `wram[a - 0xe000] <- v` (R204). -/
def writeEcho (a : Addr) (v : Byte) (s : State) : State := setWram (storeIndex 0xe000 a) v s

/-- `OamGet(a)` (R205). -/
def readOam (a : Addr) (s : State) : Run Byte := oamGet a s

/-- `OamSet(a, v)` (R206). -/
def writeOam (a : Addr) (v : Byte) (s : State) : Run Unit := oamSet a v s

/-- `zram[a - 0xff80]` (R209). -/
def readZram (a : Addr) (s : State) : Run Byte := .ok (Memory.byte s.zram (storeIndex 0xff80 a)) s

/-- `zram[o] <- b`. -/
def setZram (o : Nat) (b : Byte) (s : State) : State := { s with zram := Memory.write s.zram o b }

/-- `zram[a - 0xff80] <- v` (R210). -/
def writeZram (a : Addr) (v : Byte) (s : State) : State := setZram (storeIndex 0xff80 a) v s

/-- Reads 0 and asserts the diagnostic (R212). -/
def readUnmapped (a : Addr) (s : State) : Run Byte := .ok 0 (emitDiag .read a s)

/-- Asserts the diagnostic and does nothing else (R213). -/
def writeUnmapped (a : Addr) (s : State) : State := emitDiag .write a s

/-- `FETCH.ROM` (R193). -/
def execFetchRom (a : Addr) (s : State) : Host.Outcome State Fault Refusal :=
  inWindow .rom a (runFetch (readRom a) s)

/-- `STORE.ROM` (R194). -/
def execStoreRom (a : Addr) (v : Byte) (s : State) : Host.Outcome State Fault Refusal :=
  inWindow .rom a (runStore (writeRom a v) s)

/-- `FETCH.VRAM` (R195). -/
def execFetchVram (a : Addr) (s : State) : Host.Outcome State Fault Refusal :=
  inWindow .vram a (runFetch (readVram a) s)

/-- `STORE.VRAM` (R199). -/
def execStoreVram (a : Addr) (v : Byte) (s : State) : Host.Outcome State Fault Refusal :=
  inWindow .vram a (runEffect (writeVram a v) s)

/-- `FETCH.CRAM` (R197). -/
def execFetchCram (a : Addr) (s : State) : Host.Outcome State Fault Refusal :=
  inWindow .cram a (runFetch (readCram a) s)

/-- `STORE.CRAM` (R198). -/
def execStoreCram (a : Addr) (v : Byte) (s : State) : Host.Outcome State Fault Refusal :=
  inWindow .cram a (runStore (writeCram a v) s)

/-- `FETCH.WRAM` (R201). -/
def execFetchWram (a : Addr) (s : State) : Host.Outcome State Fault Refusal :=
  inWindow .wram a (runFetch (readWram a) s)

/-- `STORE.WRAM` (R202). -/
def execStoreWram (a : Addr) (v : Byte) (s : State) : Host.Outcome State Fault Refusal :=
  inWindow .wram a (runStore (writeWram a v) s)

/-- `FETCH.ECHO` (R203). -/
def execFetchEcho (a : Addr) (s : State) : Host.Outcome State Fault Refusal :=
  inWindow .echo a (runFetch (readEcho a) s)

/-- `STORE.ECHO` (R204). -/
def execStoreEcho (a : Addr) (v : Byte) (s : State) : Host.Outcome State Fault Refusal :=
  inWindow .echo a (runStore (writeEcho a v) s)

/-- `FETCH.OAM` (R205). -/
def execFetchOam (a : Addr) (s : State) : Host.Outcome State Fault Refusal :=
  inWindow .oam a (runFetch (readOam a) s)

/-- `STORE.OAM` (R206). -/
def execStoreOam (a : Addr) (v : Byte) (s : State) : Host.Outcome State Fault Refusal :=
  inWindow .oam a (runEffect (writeOam a v) s)

/-- `FETCH.ZRAM` (R209). -/
def execFetchZram (a : Addr) (s : State) : Host.Outcome State Fault Refusal :=
  inWindow .zram a (runFetch (readZram a) s)

/-- `STORE.ZRAM` (R210). -/
def execStoreZram (a : Addr) (v : Byte) (s : State) : Host.Outcome State Fault Refusal :=
  inWindow .zram a (runStore (writeZram a v) s)

/-- `FETCH.UNMAPPED` (R212). -/
def execFetchUnmapped (a : Addr) (s : State) : Host.Outcome State Fault Refusal :=
  inWindow .unmapped a (runFetch (readUnmapped a) s)

/-- `STORE.UNMAPPED` (R213): the byte is ignored. -/
def execStoreUnmapped (a : Addr) (_v : Byte) (s : State) : Host.Outcome State Fault Refusal :=
  inWindow .unmapped a (runStore (writeUnmapped a) s)

end Sys2Proof.Machine
end

