-- ==== Sys2Proof/Machine/Io.lean ====
section
/-! DEFINITION. The I/O register window and the interrupt-enable register (44_io_registers.md): what a read and a write
of each register does, and the `FETCH` and `STORE` operations over them but `STORE.DMA` (Dma.lean). A read is shared with
the DMA engine's source read (R190). -/

namespace Sys2Proof.Machine

/-- `io_shadow[i] <- b`. -/
def setIoShadow (i : Nat) (b : Byte) (s : State) : State := { s with ioShadow := Memory.write s.ioShadow i b }

/-- `Pad.update()`: the snapshot becomes one the environment chooses (R42, D32); log 9. -/
def padUpdate (s : State) : State := { s with pad := Config.freePad s.draws, draws := s.draws + 1 }

/-- A change of the timer. -/
def setTimer (t : Timer) (s : State) : State := { s with timer := t }

/-- The input matrix, from its shadow byte and the snapshot (R232). -/
def readP1 (s : State) : Run Byte := .ok (inputMatrixByte (Memory.byte s.ioShadow offP1.toNat) s.pad) s

/-- The whole byte goes to the shadow, and the snapshot is refreshed (R233). -/
def writeP1 (v : Byte) (s : State) : State := padUpdate (setIoShadow offP1.toNat v s)

/-- `Timer.div()` (R236). -/
def readDiv (s : State) : Run Byte := .ok s.timer.div s

/-- `Timer.reset_div()`; the byte is not used (R237, D19); log 19. -/
def writeDiv (s : State) : State := setTimer (Config.timerResetDiv s.timer) s

/-- `Timer.counter()` (R238). -/
def readTima (s : State) : Run Byte := .ok s.timer.counter s

/-- `Timer.set_counter(v)` (R239). -/
def writeTima (v : Byte) (s : State) : State := setTimer (Config.timerSetCounter s.timer v) s

/-- `Timer.modulo()` (R240). -/
def readTma (s : State) : Run Byte := .ok s.timer.modulo s

/-- `Timer.set_modulo(v)` (R241). -/
def writeTma (v : Byte) (s : State) : State := setTimer (Config.timerSetModulo s.timer v) s

/-- `Timer.config()` (R242). -/
def readTac (s : State) : Run Byte := .ok s.timer.config s

/-- `Timer.set_config(v)` (R243). -/
def writeTac (v : Byte) (s : State) : State := setTimer (Config.timerSetConfig s.timer v) s

/-- The latches of the three sources, bits 7 to 3 zero (R246, D20); log 19. -/
def readIf (s : State) : Run Byte := .ok (encodeFlags (pendingFlags s)) s

/-- Every latch is forced to its bit; bits 7 to 3 are ignored (R247, D20). -/
def writeIf (v : Byte) (s : State) : State :=
  forceLatch .timer (v.getLsbD 2) (forceLatch .lcd (v.getLsbD 1) (forceLatch .vblank (v.getLsbD 0) s))

/-- A stored video register (R28, R134). -/
def readVreg (r : VReg) (s : State) : Run Byte := .ok (vregGet r s) s

/-- The current line (R254, D10); without the register, its shadow byte. -/
def readLy (s : State) : Run Byte :=
  .ok (if hasLy then s.line else Memory.byte s.ioShadow offLy.toNat) s

/-- No effect (R255, D10); without the register, its shadow byte is written. -/
def writeLy (v : Byte) (s : State) : State := if hasLy then s else setIoShadow offLy.toNat v s

/-- `dma_src[15:8]` (R153, R258). -/
def readDma (s : State) : Run Byte := .ok (dmaPageOf s.dmaSrc) s

/-- `io_shadow[a[7:0]]` (R270). -/
def readIoShadow (a : Addr) (s : State) : Run Byte := .ok (Memory.byte s.ioShadow (ioIndex a)) s

/-- `io_shadow[a[7:0]] <- v` (R271). -/
def writeIoShadow (a : Addr) (v : Byte) (s : State) : State := setIoShadow (ioIndex a) v s

/-- The five enable flags as a byte (R280). -/
def readIe (s : State) : Run Byte := .ok (encodeFlags s.ie) s

/-- The five enable flags from a byte; bits 7 to 5 are dropped and no latch is touched (R281). -/
def writeIe (v : Byte) (s : State) : State := { s with ie := decodeFlags v }

/-- `FETCH.P1` (R232). -/
def execFetchP1 (s : State) : Host.Outcome State Fault Refusal := runFetch readP1 s

/-- `STORE.P1` (R233). -/
def execStoreP1 (v : Byte) (s : State) : Host.Outcome State Fault Refusal := runStore (writeP1 v) s

/-- `FETCH.DIV` (R236). -/
def execFetchDiv (s : State) : Host.Outcome State Fault Refusal := runFetch readDiv s

/-- `STORE.DIV` (R237). -/
def execStoreDiv (_v : Byte) (s : State) : Host.Outcome State Fault Refusal := runStore writeDiv s

/-- `FETCH.TIMA` (R238). -/
def execFetchTima (s : State) : Host.Outcome State Fault Refusal := runFetch readTima s

/-- `STORE.TIMA` (R239). -/
def execStoreTima (v : Byte) (s : State) : Host.Outcome State Fault Refusal := runStore (writeTima v) s

/-- `FETCH.TMA` (R240). -/
def execFetchTma (s : State) : Host.Outcome State Fault Refusal := runFetch readTma s

/-- `STORE.TMA` (R241). -/
def execStoreTma (v : Byte) (s : State) : Host.Outcome State Fault Refusal := runStore (writeTma v) s

/-- `FETCH.TAC` (R242). -/
def execFetchTac (s : State) : Host.Outcome State Fault Refusal := runFetch readTac s

/-- `STORE.TAC` (R243). -/
def execStoreTac (v : Byte) (s : State) : Host.Outcome State Fault Refusal := runStore (writeTac v) s

/-- `FETCH.IF` (R246). -/
def execFetchIf (s : State) : Host.Outcome State Fault Refusal := runFetch readIf s

/-- `STORE.IF` (R247). -/
def execStoreIf (v : Byte) (s : State) : Host.Outcome State Fault Refusal := runStore (writeIf v) s

/-- `FETCH.CTRL` (R250). -/
def execFetchCtrl (s : State) : Host.Outcome State Fault Refusal := runFetch (readVreg .ctrl) s

/-- `STORE.CTRL` (R251). -/
def execStoreCtrl (v : Byte) (s : State) : Host.Outcome State Fault Refusal := runStore (vregSet .ctrl v) s

/-- `FETCH.STAT` (R252). -/
def execFetchStat (s : State) : Host.Outcome State Fault Refusal := runFetch (readVreg .stat) s

/-- `STORE.STAT` (R253). -/
def execStoreStat (v : Byte) (s : State) : Host.Outcome State Fault Refusal := runStore (vregSet .stat v) s

/-- `FETCH.SCY` (R260). -/
def execFetchScy (s : State) : Host.Outcome State Fault Refusal := runFetch (readVreg .scy) s

/-- `STORE.SCY` (R261). -/
def execStoreScy (v : Byte) (s : State) : Host.Outcome State Fault Refusal := runStore (vregSet .scy v) s

/-- `FETCH.SCX` (R262). -/
def execFetchScx (s : State) : Host.Outcome State Fault Refusal := runFetch (readVreg .scx) s

/-- `STORE.SCX` (R263). -/
def execStoreScx (v : Byte) (s : State) : Host.Outcome State Fault Refusal := runStore (vregSet .scx v) s

/-- `FETCH.LY` (R254). -/
def execFetchLy (s : State) : Host.Outcome State Fault Refusal := runFetch readLy s

/-- `STORE.LY` (R255). -/
def execStoreLy (v : Byte) (s : State) : Host.Outcome State Fault Refusal := runStore (writeLy v) s

/-- `FETCH.LYC` (R256). -/
def execFetchLyc (s : State) : Host.Outcome State Fault Refusal := runFetch (readVreg .lyc) s

/-- `STORE.LYC` (R257). -/
def execStoreLyc (v : Byte) (s : State) : Host.Outcome State Fault Refusal := runStore (vregSet .lyc v) s

/-- `FETCH.DMA` (R258). -/
def execFetchDma (s : State) : Host.Outcome State Fault Refusal := runFetch readDma s

/-- `FETCH.PAL0` (R264). -/
def execFetchPal0 (s : State) : Host.Outcome State Fault Refusal := runFetch (readVreg .pal0) s

/-- `STORE.PAL0` (R265). -/
def execStorePal0 (v : Byte) (s : State) : Host.Outcome State Fault Refusal := runStore (vregSet .pal0 v) s

/-- `FETCH.PAL1` (R266). -/
def execFetchPal1 (s : State) : Host.Outcome State Fault Refusal := runFetch (readVreg .pal1) s

/-- `STORE.PAL1` (R267). -/
def execStorePal1 (v : Byte) (s : State) : Host.Outcome State Fault Refusal := runStore (vregSet .pal1 v) s

/-- `FETCH.PAL2` (R268). -/
def execFetchPal2 (s : State) : Host.Outcome State Fault Refusal := runFetch (readVreg .pal2) s

/-- `STORE.PAL2` (R269). -/
def execStorePal2 (v : Byte) (s : State) : Host.Outcome State Fault Refusal := runStore (vregSet .pal2 v) s

/-- `FETCH.WY` (R272). -/
def execFetchWy (s : State) : Host.Outcome State Fault Refusal := runFetch (readVreg .wy) s

/-- `STORE.WY` (R273). -/
def execStoreWy (v : Byte) (s : State) : Host.Outcome State Fault Refusal := runStore (vregSet .wy v) s

/-- `FETCH.WX` (R274). -/
def execFetchWx (s : State) : Host.Outcome State Fault Refusal := runFetch (readVreg .wx) s

/-- `STORE.WX` (R275). -/
def execStoreWx (v : Byte) (s : State) : Host.Outcome State Fault Refusal := runStore (vregSet .wx v) s

/-- `FETCH.IE` (R280). -/
def execFetchIe (s : State) : Host.Outcome State Fault Refusal := runFetch readIe s

/-- `STORE.IE` (R281). -/
def execStoreIe (v : Byte) (s : State) : Host.Outcome State Fault Refusal := runStore (writeIe v) s

/-- `FETCH.IOSHADOW` (R270). -/
def execFetchIoShadow (a : Addr) (s : State) : Host.Outcome State Fault Refusal :=
  inWindow .ioShadow a (runFetch (readIoShadow a) s)

/-- `STORE.IOSHADOW` (R271). -/
def execStoreIoShadow (a : Addr) (v : Byte) (s : State) : Host.Outcome State Fault Refusal :=
  inWindow .ioShadow a (runStore (writeIoShadow a v) s)

end Sys2Proof.Machine
end

