-- ==== Sys2Proof/Machine/Dma.lean ====
section
/-! DEFINITION. The OAM DMA copy engine (41_dma.md): the source read through the full address decode, the step, the
trigger, and `STORE.DMA`. -/

namespace Sys2Proof.Machine

/-- The read a target performs (R190, R192, R207). -/
def readTarget (t : Target) (a : Addr) (s : State) : Run Byte :=
  match t with
  | .rom => readRom a s
  | .vram => readVram a s
  | .cram => readCram a s
  | .wram => readWram a s
  | .echo => readEcho a s
  | .oam => readOam a s
  | .zram => readZram a s
  | .ioShadow => readIoShadow a s
  | .unmapped => readUnmapped a s
  | .p1 => readP1 s
  | .div => readDiv s
  | .tima => readTima s
  | .tma => readTma s
  | .tac => readTac s
  | .irqFlag => readIf s
  | .ctrl => readVreg .ctrl s
  | .stat => readVreg .stat s
  | .scy => readVreg .scy s
  | .scx => readVreg .scx s
  | .ly => readLy s
  | .lyc => readVreg .lyc s
  | .dma => readDma s
  | .pal0 => readVreg .pal0 s
  | .pal1 => readVreg .pal1 s
  | .pal2 => readVreg .pal2 s
  | .wy => readVreg .wy s
  | .wx => readVreg .wx s
  | .ie => readIe s

/-- `BusRead(a)` (R11, R190): what a `FETCH` of the address does. -/
def busRead (a : Addr) (s : State) : Run Byte := readTarget (targetOf a) a s

/-- `dma_src <- dma_src + 1; dma_idx <- dma_idx + 1` (R151). -/
def advanceDma (s : State) : State := { s with dmaSrc := s.dmaSrc + 1, dmaIdx := s.dmaIdx + 1 }

/-- `DMA.STEP` (R151). -/
def dmaStep (s : State) : Run Unit :=
  if dmaLen ≤ s.dmaIdx then .ok () s
  else
    (busRead s.dmaSrc s).bind fun b t =>
      (oamSet t.dmaIdx b t).bind fun _ u => .ok () (advanceDma u)

/-- `DMA.TRIGGER(src)` (R150). -/
def dmaTrigger (page : Byte) (s : State) : Run Unit :=
  dmaStep { s with dmaIdx := 0, dmaSrc := dmaSourceOf page }

/-- `STORE.DMA` (R259). -/
def execStoreDma (v : Byte) (s : State) : Host.Outcome State Fault Refusal := runEffect (dmaTrigger v) s

end Sys2Proof.Machine
end

