-- ==== Sys2Proof/Machine/Control.lean ====
section
/-! DEFINITION. The commands without an address that are not the arbiter's: `STEP` (R200), `RESET` (R321) and the two
reserved command codes (R97). -/

namespace Sys2Proof.Machine

/-- `Timer.step()` (R41 (d)). -/
def timerTick (s : State) : State := setTimer (Config.timerStep s.timer) s

/-- The per-tick advance: video, then DMA, then timer; the timer is skipped when the DMA step faults (R156, R200). -/
def tick (s : State) : Run Unit := (dmaStep (videoTick s)).bind fun _ t => .ok () (timerTick t)

/-- `STEP` (R200). -/
def execStep (s : State) : Host.Outcome State Fault Refusal := runEffect tick s

/-- `Cart.reset()`, the RAM stores, `Timer.reset()` (R321). -/
def resetPeripherals (s : State) : State :=
  { s with cart := Config.cartReset s.cart, wram := [], zram := [], timer := Config.timerPowerOn }

/-- The video timing controller's reset (R136, R321, D13). -/
def resetVideo (s : State) : State :=
  { s with
    line := 0
    col := 0
    oam := Vector.replicate 160 Config.oamFill
    vram := []
    vregs :=
      { ctrl := resetVreg, stat := resetVreg, scy := resetVreg, scx := resetVreg, lyc := resetVreg, pal0 := resetVreg
        pal1 := resetVreg, pal2 := resetVreg, wy := resetVreg, wx := resetVreg }
    itVblank := resetLatch
    itLcd := resetLatch }

/-- The dispatcher's own state (R321, D14). -/
def resetDispatcher (s : State) : State :=
  { s with
    ioShadow := []
    ie := { vblank := false, lcd := false, timer := false, serial := false, button := false }
    dmaSrc := 0
    dmaIdx := dmaIdle }

/-- `RESET` (R321): the snapshot, the display and the fault flag are untouched. -/
def execReset (s : State) : Host.Outcome State Fault Refusal :=
  runStore (fun u => resetDispatcher (resetVideo (resetPeripherals u))) s

/-- Command code 6: refused, with no state change (R97 (a)); log 3. -/
def execReserved6 (s : State) : Host.Outcome State Fault Refusal := .next (refuse s)

/-- Command code 7: refused, with no state change (R97 (a)); log 3. -/
def execReserved7 (s : State) : Host.Outcome State Fault Refusal := .next (refuse s)

end Sys2Proof.Machine
end

