-- ==== Sys2Proof/Machine/Dispatch.lean ====
section
/-! DEFINITION. The dispatch: one arm for each operation of the table. -/

namespace Sys2Proof.Machine

def exec (i : Instr) (s : State) : Host.Outcome State Fault Refusal :=
  match i with
  -- commands without address decode (R92)
  | .step => Sys2Proof.Machine.execStep s
  | .irqPeek => Sys2Proof.Machine.execIrqPeek s
  | .irqAck => Sys2Proof.Machine.execIrqAck s
  | .reset => Sys2Proof.Machine.execReset s
  | .reserved6 => Sys2Proof.Machine.execReserved6 s
  | .reserved7 => Sys2Proof.Machine.execReserved7 s
  -- windows (R192) and shadow (R270, R271)
  | .fetchRom a => Sys2Proof.Machine.execFetchRom a s
  | .storeRom a v => Sys2Proof.Machine.execStoreRom a v s
  | .fetchVram a => Sys2Proof.Machine.execFetchVram a s
  | .storeVram a v => Sys2Proof.Machine.execStoreVram a v s
  | .fetchCram a => Sys2Proof.Machine.execFetchCram a s
  | .storeCram a v => Sys2Proof.Machine.execStoreCram a v s
  | .fetchWram a => Sys2Proof.Machine.execFetchWram a s
  | .storeWram a v => Sys2Proof.Machine.execStoreWram a v s
  | .fetchEcho a => Sys2Proof.Machine.execFetchEcho a s
  | .storeEcho a v => Sys2Proof.Machine.execStoreEcho a v s
  | .fetchOam a => Sys2Proof.Machine.execFetchOam a s
  | .storeOam a v => Sys2Proof.Machine.execStoreOam a v s
  | .fetchZram a => Sys2Proof.Machine.execFetchZram a s
  | .storeZram a v => Sys2Proof.Machine.execStoreZram a v s
  | .fetchIoShadow a => Sys2Proof.Machine.execFetchIoShadow a s
  | .storeIoShadow a v => Sys2Proof.Machine.execStoreIoShadow a v s
  | .fetchUnmapped a => Sys2Proof.Machine.execFetchUnmapped a s
  | .storeUnmapped a v => Sys2Proof.Machine.execStoreUnmapped a v s
  -- registers (R230, R280, R281)
  | .fetchP1 => Sys2Proof.Machine.execFetchP1 s
  | .storeP1 v => Sys2Proof.Machine.execStoreP1 v s
  | .fetchDiv => Sys2Proof.Machine.execFetchDiv s
  | .storeDiv v => Sys2Proof.Machine.execStoreDiv v s
  | .fetchTima => Sys2Proof.Machine.execFetchTima s
  | .storeTima v => Sys2Proof.Machine.execStoreTima v s
  | .fetchTma => Sys2Proof.Machine.execFetchTma s
  | .storeTma v => Sys2Proof.Machine.execStoreTma v s
  | .fetchTac => Sys2Proof.Machine.execFetchTac s
  | .storeTac v => Sys2Proof.Machine.execStoreTac v s
  | .fetchIf => Sys2Proof.Machine.execFetchIf s
  | .storeIf v => Sys2Proof.Machine.execStoreIf v s
  | .fetchCtrl => Sys2Proof.Machine.execFetchCtrl s
  | .storeCtrl v => Sys2Proof.Machine.execStoreCtrl v s
  | .fetchStat => Sys2Proof.Machine.execFetchStat s
  | .storeStat v => Sys2Proof.Machine.execStoreStat v s
  | .fetchScy => Sys2Proof.Machine.execFetchScy s
  | .storeScy v => Sys2Proof.Machine.execStoreScy v s
  | .fetchScx => Sys2Proof.Machine.execFetchScx s
  | .storeScx v => Sys2Proof.Machine.execStoreScx v s
  | .fetchLy => Sys2Proof.Machine.execFetchLy s
  | .storeLy v => Sys2Proof.Machine.execStoreLy v s
  | .fetchLyc => Sys2Proof.Machine.execFetchLyc s
  | .storeLyc v => Sys2Proof.Machine.execStoreLyc v s
  | .fetchDma => Sys2Proof.Machine.execFetchDma s
  | .storeDma v => Sys2Proof.Machine.execStoreDma v s
  | .fetchPal0 => Sys2Proof.Machine.execFetchPal0 s
  | .storePal0 v => Sys2Proof.Machine.execStorePal0 v s
  | .fetchPal1 => Sys2Proof.Machine.execFetchPal1 s
  | .storePal1 v => Sys2Proof.Machine.execStorePal1 v s
  | .fetchPal2 => Sys2Proof.Machine.execFetchPal2 s
  | .storePal2 v => Sys2Proof.Machine.execStorePal2 v s
  | .fetchWy => Sys2Proof.Machine.execFetchWy s
  | .storeWy v => Sys2Proof.Machine.execStoreWy v s
  | .fetchWx => Sys2Proof.Machine.execFetchWx s
  | .storeWx v => Sys2Proof.Machine.execStoreWx v s
  | .fetchIe => Sys2Proof.Machine.execFetchIe s
  | .storeIe v => Sys2Proof.Machine.execStoreIe v s

end Sys2Proof.Machine
end

