-- ==== Sys2Proof/Machine/Step.lean ====
section
/-! DEFINITION. One step: the block executes the next command word of its command port (R90); log 1. -/

namespace Sys2Proof.Machine

/-- The next command word is taken, decoded and executed. With no command presented nothing happens: there is no other
way to change the block (R90). -/
def step (s : State) : Host.Outcome State Fault Refusal :=
  match takeCommand s with
  | none => .next s
  | some (cw, t) => exec (decode cw) t

/-- `s` with the command word presented next; log 1. -/
def State.withFetchWord (s : State) (nbits w : Nat) : State :=
  presentCommand (BitVec.ofNat 27 (w % 2 ^ nbits)) s

end Sys2Proof.Machine
end

