-- ==== Sys2Proof/Machine/Pseudo.lean ====
section
/-! DEFINITION. The pseudo-commands of R104 (D26): what the environment does when it issues one. Each is a sequence of
commands at the command port and adds no behaviour to the block; log 28. -/

namespace Sys2Proof.Machine

/-- The environment presents one command word and the block executes it (R90); `none` if it gave no answer. -/
def issue (cw : CommandWord) (s : State) : Option State :=
  match step (presentCommand cw s) with
  | .next t => some t
  | .fault _ => none
  | .refused _ => none

/-- A sequence of command words: the state it leaves, and the response to each word. -/
def issueAll (ws : List CommandWord) (s : State) : Option (State × List Response) :=
  match ws with
  | [] => some (s, [])
  | cw :: rest => (issue cw s).bind fun t => (issueAll rest t).map fun r => (r.1, t.response :: r.2)

/-- `STEP`. -/
def stepWord : CommandWord := CommandWord.mk 0 0 0

/-- `FETCH 0xff44`. -/
def fetchLineWord : CommandWord := CommandWord.mk 1 0xff44 0

/-- `IRQ_ACK`. -/
def ackWord : CommandWord := CommandWord.mk 4 0 0

/-- A `FETCH` returned the byte: it was not refused, and the byte is its `rdata` (R103). -/
def fetchReturned (b : Byte) (r : Response) : Bool := !r.refused && decide (r.rdata = b)

/-- An `IRQ_ACK` returned none: it was not refused, and names no source (R103). -/
def ackReturnedNone (r : Response) : Bool := !r.refused && r.irq.isNone

/-- `STEP` until a `FETCH 0xff44` returns `n`, one `FETCH` after each `STEP`; `none` after `bound` fruitless pairs. -/
def waitLine (n : Byte) (bound : Nat) (s : State) : Option (State × List Response) :=
  match bound with
  | 0 => none
  | k + 1 =>
    (issue stepWord s).bind fun t => (issue fetchLineWord t).bind fun u =>
      if fetchReturned n u.response then some (u, [t.response, u.response])
      else (waitLine n k u).map fun r => (r.1, t.response :: u.response :: r.2)

/-- `IRQ_ACK` until it returns none; `none` after `bound` commands that did not. -/
def ackAll (bound : Nat) (s : State) : Option (State × List Response) :=
  match bound with
  | 0 => none
  | k + 1 =>
    (issue ackWord s).bind fun t =>
      if ackReturnedNone t.response then some (t, [t.response])
      else (ackAll k t).map fun r => (r.1, t.response :: r.2)

/-- `WAITLINE` ends within this many `STEP`s for every line of the raster (R104). -/
def waitLineBound : Nat := 70680

/-- `ACKALL` ends within this many `IRQ_ACK`s: at most 3 return a source (R104). -/
def ackAllBound : Nat := 4

/-- The pseudo-commands (R104). -/
inductive PseudoCommand where
  | stepN (n : Nat)
  | dma (p : Byte)
  | ei (m : Byte)
  | waitLine (n : Byte)
  | ackAll
deriving DecidableEq, Repr

/-- The expansion of each pseudo-command: what it leaves, and the responses to its commands in order (R104). -/
def runPseudo (c : PseudoCommand) (s : State) : Option (State × List Response) :=
  match c with
  | .stepN n => issueAll (List.replicate n stepWord) s
  | .dma p => issueAll [CommandWord.mk 2 0xff46 p] s
  | .ei m => issueAll [CommandWord.mk 2 0xffff m] s
  | .waitLine n => waitLine n waitLineBound s
  | .ackAll => ackAll ackAllBound s

end Sys2Proof.Machine
end

