-- ==== Sys2Proof/Safety.lean ====
section
/-! DEFINITION. What counts as a good state and a safe run, in the terms the statements use. -/

namespace Sys2Proof.Machine

/-- The position is inside the raster (R23). -/
abbrev RasterInRange (s : State) : Prop := s.line ≤ lineLast ∧ s.col ≤ colLast

/-- `0 <= dma_idx <= 160` (R33). -/
abbrev DmaIndexInRange (s : State) : Prop := s.dmaIdx ≤ dmaLen

/-- The source address has moved from its page's first byte as far as the index has from 0 (R78, R155), or nothing has
been triggered since reset (R46). -/
abbrev DmaSourceInPage (s : State) : Prop :=
  s.dmaSrc.extractLsb' 0 8 = s.dmaIdx.extractLsb' 0 8 ∨ (s.dmaSrc = 0 ∧ s.dmaIdx = dmaIdle)

/-- A byte store is in canonical form and lists no offset outside its size (R26, R35, R37, R38). -/
abbrev StoreIn (size : Nat) (m : Memory) : Prop := Memory.wf m ∧ ∀ c ∈ m, c.1 < size

/-- The four byte stores. -/
abbrev StoresInRange (s : State) : Prop :=
  StoreIn 8192 s.vram ∧ StoreIn 8192 s.wram ∧ StoreIn 127 s.zram ∧ StoreIn 76 s.ioShadow

/-- `rw[15]` is the value of the sticky fault flag after the command (R93). -/
abbrev FaultReported (s : State) : Prop := s.response.fault = s.fault

/-- Only sources with a latch are ever returned (R105, R176). -/
abbrev SourceHasLatch (s : State) : Prop := s.response.irq ≠ some .serial ∧ s.response.irq ≠ some .button

/-- The invariant of the block: it holds after power-on and every step keeps it. -/
abbrev Inv (s : State) : Prop :=
  RasterInRange s ∧ DmaIndexInRange s ∧ DmaSourceInPage s ∧ StoresInRange s ∧ FaultReported s ∧ SourceHasLatch s

/-- The response of a `FETCH` that did not fault, assert the diagnostic or get refused (R93, R190). -/
def byteResponse (b : Byte) : Response := { Response.quiet with rdata := b }

/-- The response of a command that found a source, or none (R93, R172, R173). -/
def irqResponse (r : Option Source) : Response := { Response.quiet with irq := r }

/-- The response of an unmapped access (R93, R212, R213). -/
def diagResponse (kind : BusAccess) (a : Addr) : Response :=
  { Response.quiet with diag := some { kind := kind, addr := a } }

/-- The response of a command that `OamAccessViolation` ended (R93, R291). -/
def violationResponse (kind : OamAccess) (a : Addr) : Response :=
  { Response.quiet with fault := true, violation := some { kind := kind, addr := a } }

/-- `n` consecutive `STEP` commands (`STEPN n`, R104). -/
def stepN (n : Nat) (s : State) : Host.Outcome State Fault Refusal :=
  match n with
  | 0 => .next s
  | k + 1 =>
    match stepN k s with
    | .next t => exec .step t
    | .fault r => .fault r
    | .refused r => .refused r

/-- A `STORE` to the DMA register and then `n` consecutive `STEP` commands. -/
def dmaThenSteps (page : Byte) (n : Nat) (s : State) : Host.Outcome State Fault Refusal :=
  match exec (.storeDma page) s with
  | .next t => stepN n t
  | .fault r => .fault r
  | .refused r => .refused r

/-- The safe trigger positions of a DMA transfer, the table of R331. -/
abbrev DmaSafeStart (line : BitVec 8) (col : BitVec 9) : Prop :=
  (line ≤ 142 ∧ 173 ≤ col ∧ col ≤ 296) ∨ (line = 143 ∧ 173 ≤ col ∧ col ≤ 455) ∨
    (144 ≤ line ∧ line ≤ 153 ∧ col ≤ 455) ∨ (line = 154 ∧ col ≤ 296)

end Sys2Proof.Machine
end

