-- ==== Sys2Proof/Certificates/Slice0/Obligations.lean ====
section
/-! DEFINITION. The statements for the provers. Each docstring names the rules it formalises; `D<n>` marks a decision the
spec itself takes where its source is silent, and a statement that rests on one is a derived statement. -/

open Sys2Proof Sys2Proof.Machine

/-- R90 (D1; log 1): the block executes the command word presented to it, and nothing happens while none is. -/
def Obligations.StepExecutesThePresentedCommand : Prop :=
  (∀ (s : State) (cw : CommandWord) (rest : List CommandWord), s.pending = cw :: rest →
    step s = exec (decode cw) { s with pending := rest } ∧ (decode cw).wellFormed = true) ∧
  (∀ s : State, s.pending = [] → step s = .next s)

/-- R91, R92, R95, R230 (D9), and the words of 95_test_vectors.md sections 3.5, 3.6 and 3.8: a word for every operation. -/
def Obligations.PublishedWordsDecode : Prop :=
  decode 0x0000000 = .step ∧ decode 0x0abcdef = .step ∧ decode 0x3ffffff = .irqPeek ∧ decode 0x4123456 = .irqAck ∧
  decode 0x5ffffff = .reset ∧ decode 0x6000000 = .reserved6 ∧ decode 0x7ffffff = .reserved7 ∧
  decode 0x17fff00 = .fetchRom 0x7fff ∧ decode 0x2000012 = .storeRom 0x0000 0x12 ∧
  decode 0x1800000 = .fetchVram 0x8000 ∧ decode 0x29fff77 = .storeVram 0x9fff 0x77 ∧
  decode 0x1bfff00 = .fetchCram 0xbfff ∧ decode 0x2a00021 = .storeCram 0xa000 0x21 ∧
  decode 0x1dfff00 = .fetchWram 0xdfff ∧ decode 0x2c00001 = .storeWram 0xc000 0x01 ∧
  decode 0x1e00000 = .fetchEcho 0xe000 ∧ decode 0x2fdff03 = .storeEcho 0xfdff 0x03 ∧
  decode 0x1fe9f00 = .fetchOam 0xfe9f ∧ decode 0x2fe0005 = .storeOam 0xfe00 0x05 ∧
  decode 0x1feff00 = .fetchUnmapped 0xfeff ∧ decode 0x2ff4c08 = .storeUnmapped 0xff4c 0x08 ∧
  decode 0x1ff8000 = .fetchZram 0xff80 ∧ decode 0x2fffeaa = .storeZram 0xfffe 0xaa ∧
  decode 0x1ff3f00 = .fetchIoShadow 0xff3f ∧ decode 0x2ff0141 = .storeIoShadow 0xff01 0x41 ∧
  decode 0x1ffff00 = .fetchIe ∧ decode 0x2ffffa5 = .storeIe 0xa5 ∧ decode 0x1ff0000 = .fetchP1 ∧
  decode 0x2ff00cf = .storeP1 0xcf ∧ decode 0x1ff0400 = .fetchDiv ∧ decode 0x2ff0499 = .storeDiv 0x99 ∧
  decode 0x1ff0500 = .fetchTima ∧ decode 0x2ff0512 = .storeTima 0x12 ∧ decode 0x1ff0600 = .fetchTma ∧
  decode 0x2ff0634 = .storeTma 0x34 ∧ decode 0x1ff0700 = .fetchTac ∧ decode 0x2ff0705 = .storeTac 0x05 ∧
  decode 0x1ff0f00 = .fetchIf ∧ decode 0x2ff0ffd = .storeIf 0xfd ∧ decode 0x1ff4000 = .fetchCtrl ∧
  decode 0x2ff4091 = .storeCtrl 0x91 ∧ decode 0x1ff4100 = .fetchStat ∧ decode 0x2ff41ff = .storeStat 0xff ∧
  decode 0x1ff4200 = .fetchScy ∧ decode 0x2ff4211 = .storeScy 0x11 ∧ decode 0x1ff4300 = .fetchScx ∧
  decode 0x2ff4322 = .storeScx 0x22 ∧ decode 0x1ff4400 = .fetchLy ∧ decode 0x2ff4463 = .storeLy 0x63 ∧
  decode 0x1ff4500 = .fetchLyc ∧ decode 0x2ff450a = .storeLyc 0x0a ∧ decode 0x1ff4600 = .fetchDma ∧
  decode 0x2ff46c1 = .storeDma 0xc1 ∧ decode 0x1ff4700 = .fetchPal0 ∧ decode 0x2ff47e4 = .storePal0 0xe4 ∧
  decode 0x1ff4800 = .fetchPal1 ∧ decode 0x2ff48d2 = .storePal1 0xd2 ∧ decode 0x1ff4900 = .fetchPal2 ∧
  decode 0x2ff491b = .storePal2 0x1b ∧ decode 0x1ff4a00 = .fetchWy ∧ decode 0x2ff4a88 = .storeWy 0x88 ∧
  decode 0x1ff4b00 = .fetchWx ∧ decode 0x2ff4b07 = .storeWx 0x07

/-- R91, R92, R94, R95 (D1, D25): no bit of an operation is lost. -/
def Obligations.DecodeInvertsEncode : Prop :=
  ∀ i : Instr, i.wellFormed = true → decode (encode i) = i

/-- R95, R100: decoding is total, and gives an operation the table has. -/
def Obligations.DecodedOperationsAreWellFormed : Prop :=
  ∀ cw : CommandWord, (decode cw).wellFormed = true

/-- R67, R95, R98, R100, R192, R230 (D9): every address selects one target, and these are its addresses; the windows that the
other statements take as `Target.covers` are the same. -/
def Obligations.AddressesDecodeByTheMemoryMap : Prop :=
  ∀ (a : Addr) (v : Byte),
    (let target : Target :=
       if a ≤ 0x7fff then .rom else if a ≤ 0x9fff then .vram else if a ≤ 0xbfff then .cram
       else if a ≤ 0xdfff then .wram else if a ≤ 0xfdff then .echo else if a ≤ 0xfe9f then .oam
       else if a ≤ 0xfeff then .unmapped
       else if a = 0xff00 then .p1 else if a = 0xff04 then .div else if a = 0xff05 then .tima
       else if a = 0xff06 then .tma else if a = 0xff07 then .tac else if a = 0xff0f then .irqFlag
       else if a = 0xff40 then .ctrl else if a = 0xff41 then .stat else if a = 0xff42 then .scy
       else if a = 0xff43 then .scx else if a = 0xff44 then .ly else if a = 0xff45 then .lyc
       else if a = 0xff46 then .dma else if a = 0xff47 then .pal0 else if a = 0xff48 then .pal1
       else if a = 0xff49 then .pal2 else if a = 0xff4a then .wy else if a = 0xff4b then .wx
       else if a ≤ 0xff3f then .ioShadow else if a ≤ 0xff7f then .unmapped else if a ≤ 0xfffe then .zram else .ie
     decode (CommandWord.mk 1 a v) = fetchOf target a ∧ decode (CommandWord.mk 2 a v) = storeOf target a v ∧
       ∀ x : Target, x.covers a = true ↔ x = target)

/-- R94 (D25): a decoder reads `op`, for `FETCH` and `STORE` also `addr`, and the datum of a `STORE`. -/
def Obligations.UnusedFieldsDoNotMatter : Prop :=
  ∀ cw cw' : CommandWord, CommandWord.op cw = CommandWord.op cw' →
    (CommandWord.op cw = 1 ∨ CommandWord.op cw = 2 → CommandWord.addr cw = CommandWord.addr cw') →
    (CommandWord.op cw = 2 → CommandWord.data cw = CommandWord.data cw') → decode cw = decode cw'

/-- R81. -/
def Obligations.FlagsPackAndUnpack : Prop :=
  (∀ f : SourceFlags, encodeFlags f = 0#3 ++ BitVec.ofBool f.button ++ BitVec.ofBool f.serial ++
    BitVec.ofBool f.timer ++ BitVec.ofBool f.lcd ++ BitVec.ofBool f.vblank) ∧
  (∀ b : Byte, decodeFlags b = ⟨b.getLsbD 0, b.getLsbD 1, b.getLsbD 2, b.getLsbD 3, b.getLsbD 4⟩) ∧
  (∀ b : Byte, encodeFlags (decodeFlags b) = b &&& 0x1f) ∧ (∀ f : SourceFlags, decodeFlags (encodeFlags f) = f)

/-- R93, R105 (D2, D21): the codes of the sources, and the fields of a response word. -/
def Obligations.ResponseWordFields : Prop :=
  (sourceCode .vblank = 0 ∧ sourceCode .lcd = 1 ∧ sourceCode .timer = 2 ∧ sourceCode .serial = 3 ∧
    sourceCode .button = 4) ∧
  ∀ r : Response,
    (Response.word r).getLsbD 16 = r.refused ∧ (Response.word r).getLsbD 15 = r.fault ∧
    (Response.word r).getLsbD 14 = r.flip ∧ (Response.word r).getLsbD 13 = r.diag.isSome ∧
    (Response.word r).getLsbD 12 = r.irq.isSome ∧ (Response.word r).getLsbD 8 = false ∧
    (∀ src, r.irq = some src → (Response.word r).extractLsb' 9 3 = sourceCode src) ∧
    (r.irq = none → (Response.word r).extractLsb' 9 3 = 0) ∧ (Response.word r).extractLsb' 0 8 = r.rdata

/-- R46, R320 (D12, D14, D15): what power-on leaves. -/
def Obligations.PowerOnState : Prop :=
  State.reset.line = 0 ∧ State.reset.col = 0 ∧ (∀ i : Fin 160, State.reset.oam[i] = Config.oamFill) ∧
  Config.oamFill ≠ 0 ∧
  (∀ o, Memory.byte State.reset.vram o = 0 ∧ Memory.byte State.reset.wram o = 0 ∧ Memory.byte State.reset.zram o = 0 ∧
    Memory.byte State.reset.ioShadow o = 0) ∧
  (∀ r, vregGet r State.reset = 0) ∧ State.reset.itVblank = false ∧ State.reset.itLcd = false ∧
  State.reset.ie = ⟨false, false, false, false, false⟩ ∧ State.reset.dmaSrc = 0 ∧ State.reset.dmaIdx = 160 ∧
  State.reset.fault = false ∧ State.reset.flips = 0 ∧ State.reset.timer.latch = Config.timerResetLatch

/-- R23, R33, R78, R93: the invariant holds after power-on. -/
def Obligations.PowerOnMeetsTheInvariant : Prop := Inv State.reset

/-- R23, R33, R78, R93 (derived rules): every step keeps the invariant, from every state that meets it. -/
def Obligations.EveryStepKeepsTheInvariant : Prop :=
  ∀ s t : State, Inv s → step s = .next t → Inv t

/-- R292, R97 (D6; log 3): while the fault flag is 1 every command is refused and changes nothing. -/
def Obligations.FaultedBlockRefusesEveryCommand : Prop :=
  ∀ (i : Instr) (s : State), i.wellFormed = true → s.fault = true →
    exec i s = .next { s with response := { Response.quiet with refused := true, fault := true } }

/-- R97 (D25; log 3): the reserved codes are refused and change nothing. -/
def Obligations.ReservedCodesAreRefused : Prop :=
  ∀ s : State,
    exec .reserved6 s = .next { s with response := { Response.quiet with refused := true, fault := s.fault } } ∧
    exec .reserved7 s = .next { s with response := { Response.quiet with refused := true, fault := s.fault } }

/-- R60, R64: every command is answered; no address and no state is without an answer. -/
def Obligations.EveryCommandIsAnswered : Prop :=
  ∀ s : State, (∃ t, step s = .next t) ∧ ∀ i : Instr, i.wellFormed = true → ∃ t, exec i s = .next t

/-- R93 (D2, C8): which command can assert which field of the response. -/
def Obligations.ResponseFieldsBelongToTheirCommands : Prop :=
  ∀ (i : Instr) (s t : State), exec i s = .next t →
    (t.response.refused = true ↔ i = .reserved6 ∨ i = .reserved7 ∨ s.fault = true) ∧ t.response.fault = t.fault ∧
    (t.response.flip = true → i = .step) ∧ (t.response.irq.isSome = true → i = .irqPeek ∨ i = .irqAck) ∧
    (t.response.rdata ≠ 0 → ∃ x a, i = fetchOf x a) ∧
    (t.response.diag.isSome = true → (∃ a, i = .fetchUnmapped a) ∨ (∃ a v, i = .storeUnmapped a v) ∨
      (i = .step ∧ s.dmaIdx < 160 ∧ Target.unmapped.covers s.dmaSrc = true)) ∧
    (t.response.violation.isSome = true ↔ s.fault = false ∧ t.fault = true)

/-- Log 11: an address outside its window makes no operation of the block. -/
def Obligations.AddressOutsideWindowStops : Prop :=
  ∀ (i : Instr) (s : State), i.wellFormed = false → exec i s = .fault .operandOutsideWindow

/-- R193, R194. -/
def Obligations.RomWindowReachesTheCartridge : Prop :=
  ∀ (s : State) (a : Addr) (v : Byte), s.fault = false → Target.rom.covers a = true →
    exec (.fetchRom a) s = .next { s with response := byteResponse (Config.cartRomByte s.cart a) } ∧
    exec (.storeRom a v) s = .next { s with cart := Config.cartSetRomByte s.cart a v, response := Response.quiet }

/-- R197, R198 (D17). -/
def Obligations.CartridgeRamWindowReachesTheCartridge : Prop :=
  ∀ (s : State) (a : Addr) (v : Byte), s.fault = false → Target.cram.covers a = true →
    exec (.fetchCram a) s = .next { s with response := byteResponse (Config.cartRamByte s.cart (a - 0xa000)) } ∧
    exec (.storeCram a v) s =
      .next { s with cart := Config.cartSetRamByte s.cart (a - 0xa000) v, response := Response.quiet }

/-- R201, R203, R209. -/
def Obligations.RamWindowsFetchTheStoredByte : Prop :=
  ∀ (s : State) (a : Addr), s.fault = false →
    (Target.wram.covers a = true →
      exec (.fetchWram a) s = .next { s with response := byteResponse (Memory.byte s.wram (a - 0xc000).toNat) }) ∧
    (Target.echo.covers a = true →
      exec (.fetchEcho a) s = .next { s with response := byteResponse (Memory.byte s.wram (a - 0xe000).toNat) }) ∧
    (Target.zram.covers a = true →
      exec (.fetchZram a) s = .next { s with response := byteResponse (Memory.byte s.zram (a - 0xff80).toNat) })

/-- R202, R204, R210: one byte of the store changes, and nothing else does. -/
def Obligations.RamWindowsStoreOneByte : Prop :=
  ∀ (s : State) (a : Addr) (v : Byte), s.fault = false →
    (Target.wram.covers a = true → ∃ m, exec (.storeWram a v) s = .next { s with wram := m, response := Response.quiet } ∧
      Memory.byte m (a - 0xc000).toNat = v ∧ ∀ o, o ≠ (a - 0xc000).toNat → Memory.byte m o = Memory.byte s.wram o) ∧
    (Target.echo.covers a = true → ∃ m, exec (.storeEcho a v) s = .next { s with wram := m, response := Response.quiet } ∧
      Memory.byte m (a - 0xe000).toNat = v ∧ ∀ o, o ≠ (a - 0xe000).toNat → Memory.byte m o = Memory.byte s.wram o) ∧
    (Target.zram.covers a = true → ∃ m, exec (.storeZram a v) s = .next { s with zram := m, response := Response.quiet } ∧
      Memory.byte m (a - 0xff80).toNat = v ∧ ∀ o, o ≠ (a - 0xff80).toNat → Memory.byte m o = Memory.byte s.zram o)

/-- R49: a `STORE` through either of the two windows is seen by a `FETCH` through the other. -/
def Obligations.EchoAliasesInternalRam : Prop :=
  ∀ (s : State) (a : Addr) (v : Byte), s.fault = false → inRange 0xc000 0xddff a = true →
    (∃ t u, exec (.storeWram a v) s = .next t ∧ exec (.fetchEcho (a + 0x2000)) t = .next u ∧ u.response = byteResponse v) ∧
    (∃ t u, exec (.storeEcho (a + 0x2000) v) s = .next t ∧ exec (.fetchWram a) t = .next u ∧ u.response = byteResponse v)

/-- R127: the display mode is a function of the position alone, and these are its ranges. -/
def Obligations.ModeFollowsThePosition : Prop :=
  ∀ s : State,
    (144 ≤ s.line → mode s = .vblank) ∧ (s.line ≤ 143 → s.col ≤ 79 → mode s = .prelude) ∧
    (s.line ≤ 143 → 80 ≤ s.col → s.col ≤ 172 → mode s = .active) ∧
    (s.line ≤ 143 → 173 ≤ s.col → mode s = .hblank) ∧
    ∀ t : State, t.line = s.line → t.col = s.col → mode t = mode s

/-- R195, R199 (D16): outside Active mode, lines 0 to 143 and columns 80 to 172, video memory is plain storage. -/
def Obligations.VideoMemoryIsPlainOutsideActive : Prop :=
  ∀ (s : State) (a : Addr) (v : Byte), s.fault = false → Target.vram.covers a = true →
    (144 ≤ s.line ∨ s.col ≤ 79 ∨ 173 ≤ s.col) →
    exec (.fetchVram a) s = .next { s with response := byteResponse (Memory.byte s.vram (a - 0x8000).toNat) } ∧
    ∃ m, exec (.storeVram a v) s = .next { s with vram := m, response := Response.quiet } ∧
      Memory.byte m (a - 0x8000).toNat = v ∧ ∀ o, o ≠ (a - 0x8000).toNat → Memory.byte m o = Memory.byte s.vram o

/-- R195, R196, R199, R338 (D16; log 4): at lines 0 to 143 and columns 80 to 172 nothing faults, a read gives the next draw,
and a write leaves the next draw in the addressed byte, whatever it is, and changes no other. -/
def Obligations.VideoMemoryInActiveIsADraw : Prop :=
  ∀ (s : State) (a : Addr) (v : Byte), s.fault = false → Target.vram.covers a = true →
    s.line ≤ 143 → 80 ≤ s.col → s.col ≤ 172 →
    exec (.fetchVram a) s =
      .next { s with draws := s.draws + 1, response := byteResponse (Config.freeByte s.draws) } ∧
    ∃ m, exec (.storeVram a v) s = .next { s with vram := m, draws := s.draws + 1, response := Response.quiet } ∧
      Memory.byte m (a - 0x8000).toNat = Config.freeByte s.draws ∧
      ∀ o, o ≠ (a - 0x8000).toNat → Memory.byte m o = Memory.byte s.vram o

/-- R205, R206 (R127 for the positions): in HBlank and VBlank the byte of OAM, in Prelude and Active the violation, with
nothing else changed. -/
def Obligations.OamWindowIsGated : Prop :=
  ∀ (s : State) (a : Addr) (v : Byte), s.fault = false → Target.oam.covers a = true →
    (144 ≤ s.line ∨ 173 ≤ s.col → ∃ h : (a - 0xfe00).toNat < 160,
      exec (.fetchOam a) s = .next { s with response := byteResponse s.oam[(a - 0xfe00).toNat] } ∧
      exec (.storeOam a v) s =
        .next { s with oam := s.oam.set (a - 0xfe00).toNat v, response := Response.quiet }) ∧
    (s.line ≤ 143 → s.col ≤ 172 →
      exec (.fetchOam a) s = .next { s with fault := true, response := violationResponse .get a } ∧
      exec (.storeOam a v) s = .next { s with fault := true, response := violationResponse .set a })

/-- R212, R213: a hole reads 0, ignores writes, and only the diagnostic is asserted. -/
def Obligations.HolesReadZeroAndIgnoreWrites : Prop :=
  ∀ (s : State) (a : Addr) (v : Byte), s.fault = false → Target.unmapped.covers a = true →
    exec (.fetchUnmapped a) s = .next { s with response := diagResponse .read a } ∧
    exec (.storeUnmapped a v) s = .next { s with response := diagResponse .write a }

/-- R250 to R275 without R254, R255, R258, R259 (D9): the ten video registers read their stored byte. -/
def Obligations.VideoRegistersFetch : Prop :=
  ∀ s : State, s.fault = false →
    exec .fetchCtrl s = .next { s with response := byteResponse s.vregs.ctrl } ∧
    exec .fetchStat s = .next { s with response := byteResponse s.vregs.stat } ∧
    exec .fetchScy s = .next { s with response := byteResponse s.vregs.scy } ∧
    exec .fetchScx s = .next { s with response := byteResponse s.vregs.scx } ∧
    exec .fetchLyc s = .next { s with response := byteResponse s.vregs.lyc } ∧
    exec .fetchPal0 s = .next { s with response := byteResponse s.vregs.pal0 } ∧
    exec .fetchPal1 s = .next { s with response := byteResponse s.vregs.pal1 } ∧
    exec .fetchPal2 s = .next { s with response := byteResponse s.vregs.pal2 } ∧
    exec .fetchWy s = .next { s with response := byteResponse s.vregs.wy } ∧
    exec .fetchWx s = .next { s with response := byteResponse s.vregs.wx }

/-- R28, R134, R251 to R275 (D9, D11, D33): a store changes the one register, with no other effect, and `LYC` compares
nothing. -/
def Obligations.VideoRegistersStore : Prop :=
  ∀ (s : State) (v : Byte), s.fault = false →
    exec (.storeCtrl v) s = .next { s with vregs := { s.vregs with ctrl := v }, response := Response.quiet } ∧
    exec (.storeStat v) s = .next { s with vregs := { s.vregs with stat := v }, response := Response.quiet } ∧
    exec (.storeScy v) s = .next { s with vregs := { s.vregs with scy := v }, response := Response.quiet } ∧
    exec (.storeScx v) s = .next { s with vregs := { s.vregs with scx := v }, response := Response.quiet } ∧
    exec (.storeLyc v) s = .next { s with vregs := { s.vregs with lyc := v }, response := Response.quiet } ∧
    exec (.storePal0 v) s = .next { s with vregs := { s.vregs with pal0 := v }, response := Response.quiet } ∧
    exec (.storePal1 v) s = .next { s with vregs := { s.vregs with pal1 := v }, response := Response.quiet } ∧
    exec (.storePal2 v) s = .next { s with vregs := { s.vregs with pal2 := v }, response := Response.quiet } ∧
    exec (.storeWy v) s = .next { s with vregs := { s.vregs with wy := v }, response := Response.quiet } ∧
    exec (.storeWx v) s = .next { s with vregs := { s.vregs with wx := v }, response := Response.quiet }

/-- R254, R255 (D10): the current line reads `line`, and a store to it has no effect. -/
def Obligations.CurrentLineIsReadOnly : Prop :=
  ∀ (s : State) (v : Byte), s.fault = false →
    exec .fetchLy s = .next { s with response := byteResponse s.line } ∧
    exec (.storeLy v) s = .next { s with response := Response.quiet }

/-- R232, R233 (D18, D31, D32): a nibble that is selected shows its released buttons, the nibbles of both are joined, bits 7
to 4 are 0; a store keeps its byte and the snapshot becomes the next draw (log 9). -/
def Obligations.InputMatrixSynthesizesTheSelectedNibbles : Prop :=
  ∀ (s : State) (v : Byte), s.fault = false →
    (∃ b : Byte, exec .fetchP1 s = .next { s with response := byteResponse b } ∧
      (let dir := !(Memory.byte s.ioShadow 0).getLsbD 4
       let act := !(Memory.byte s.ioShadow 0).getLsbD 5
       b.getLsbD 0 = ((dir && !s.pad.right) || (act && !s.pad.a)) ∧
       b.getLsbD 1 = ((dir && !s.pad.left) || (act && !s.pad.b)) ∧
       b.getLsbD 2 = ((dir && !s.pad.up) || (act && !s.pad.select)) ∧
       b.getLsbD 3 = ((dir && !s.pad.down) || (act && !s.pad.start)) ∧ b.extractLsb' 4 4 = 0)) ∧
    (∃ m, exec (.storeP1 v) s =
        .next { s with
          ioShadow := m, pad := Config.freePad s.draws, draws := s.draws + 1, response := Response.quiet } ∧
      Memory.byte m 0 = v ∧ ∀ o, o ≠ 0 → Memory.byte m o = Memory.byte s.ioShadow o)

/-- R236 to R243 (D9, D19): the four timer registers read through the getters, and a store changes the timer alone. -/
def Obligations.TimerRegistersReachTheTimer : Prop :=
  ∀ (s : State) (v : Byte), s.fault = false →
    exec .fetchDiv s = .next { s with response := byteResponse s.timer.div } ∧
    exec .fetchTima s = .next { s with response := byteResponse s.timer.counter } ∧
    exec .fetchTma s = .next { s with response := byteResponse s.timer.modulo } ∧
    exec .fetchTac s = .next { s with response := byteResponse s.timer.config } ∧
    exec (.storeDiv v) s = .next { s with timer := Config.timerResetDiv s.timer, response := Response.quiet } ∧
    exec (.storeTima v) s = .next { s with timer := Config.timerSetCounter s.timer v, response := Response.quiet } ∧
    exec (.storeTma v) s = .next { s with timer := Config.timerSetModulo s.timer v, response := Response.quiet } ∧
    exec (.storeTac v) s = .next { s with timer := Config.timerSetConfig s.timer v, response := Response.quiet }

/-- R246, R247, R41 (c) (D20, D28): the flag byte shows the three latches, a store forces all three, and reading back gives
the byte's low three bits. -/
def Obligations.InterruptFlagRegisterShowsAndForcesTheLatches : Prop :=
  ∀ (s : State) (v : Byte), s.fault = false →
    exec .fetchIf s =
      .next { s with
        response := byteResponse (encodeFlags ⟨s.itVblank, s.itLcd, s.timer.latch, false, false⟩) } ∧
    ∃ t, exec (.storeIf v) s = .next t ∧
      t = { s with
        itVblank := v.getLsbD 0, itLcd := v.getLsbD 1
        timer := { Config.timerForce s.timer (v.getLsbD 2) with latch := v.getLsbD 2 }
        response := Response.quiet } ∧
      exec .fetchIf t = .next { t with response := byteResponse (v &&& 0x07) }

/-- R280, R281: the five enable flags are written from bits 4 to 0 and read back as those bits; the flags of serial and
button enable nothing. -/
def Obligations.InterruptEnableRoundTrip : Prop :=
  ∀ (s : State) (v : Byte), s.fault = false →
    exec .fetchIe s = .next { s with
      response := byteResponse (0#3 ++ BitVec.ofBool s.ie.button ++ BitVec.ofBool s.ie.serial ++
        BitVec.ofBool s.ie.timer ++ BitVec.ofBool s.ie.lcd ++ BitVec.ofBool s.ie.vblank) } ∧
    ∃ t, exec (.storeIe v) s = .next t ∧
      t = { s with
        ie := ⟨v.getLsbD 0, v.getLsbD 1, v.getLsbD 2, v.getLsbD 3, v.getLsbD 4⟩, response := Response.quiet } ∧
      exec .fetchIe t = .next { t with response := byteResponse (v &&& 0x1f) } ∧
      ∃ r, ∀ x y, exec .irqPeek { t with ie := { t.ie with serial := x, button := y } } =
        .next { t with ie := { t.ie with serial := x, button := y }, response := irqResponse r }

/-- R270, R271: a shadow offset is plain storage of eight bits. -/
def Obligations.ShadowOffsetsArePlainStorage : Prop :=
  ∀ (s : State) (a : Addr) (v : Byte), s.fault = false → Target.ioShadow.covers a = true →
    exec (.fetchIoShadow a) s = .next { s with response := byteResponse (Memory.byte s.ioShadow (a - 0xff00).toNat) } ∧
    ∃ m, exec (.storeIoShadow a v) s = .next { s with ioShadow := m, response := Response.quiet } ∧
      Memory.byte m (a - 0xff00).toNat = v ∧ ∀ o, o ≠ (a - 0xff00).toNat → Memory.byte m o = Memory.byte s.ioShadow o

/-- R153, R78 (derived rule), R258 (D9): the DMA register reads the high half of the source address and disturbs nothing;
that is the last page byte written, during and after the transfer, and 0 after power-on. -/
def Obligations.DmaRegisterReadsTheSourcePage : Prop :=
  (∀ s : State, s.fault = false →
    exec .fetchDma s = .next { s with response := byteResponse (s.dmaSrc >>> 8 |>.setWidth 8) }) ∧
  (∀ (s t : State) (page : Byte) (n : Nat), s.fault = false → dmaThenSteps page n s = .next t → t.fault = false →
    exec .fetchDma t = .next { t with response := byteResponse page }) ∧
  exec .fetchDma State.reset = .next { State.reset with response := byteResponse 0 }

/-- R190: a `FETCH` of any address is the read the DMA engine makes of it, with the byte on the response port. -/
def Obligations.FetchIsTheDmaSourceRead : Prop :=
  ∀ (s : State) (a : Addr) (v : Byte), s.fault = false →
    (∀ b t, busRead a { s with response := Response.quiet } = .ok b t →
      exec (decode (CommandWord.mk 1 a v)) s = .next { t with response := { t.response with rdata := b } }) ∧
    (∀ t, busRead a { s with response := Response.quiet } = .stopped t →
      exec (decode (CommandWord.mk 1 a v)) s = .next t ∧ t.fault = true ∧ t.response.rdata = 0)

/-- R151: a step of the DMA engine. -/
def Obligations.DmaStepMovesOneByte : Prop :=
  ∀ s : State,
    (160 ≤ s.dmaIdx → dmaStep s = .ok () s) ∧
    (s.dmaIdx < 160 → mode s = .hblank ∨ mode s = .vblank → ∃ b t, ∃ h : s.dmaIdx.toNat < 160,
      busRead s.dmaSrc s = .ok b t ∧
      dmaStep s = .ok () { t with
        oam := s.oam.set s.dmaIdx.toNat b, dmaSrc := s.dmaSrc + 1, dmaIdx := s.dmaIdx + 1 } ∧
      t = { s with response := t.response, draws := t.draws }) ∧
    (s.dmaIdx < 160 → mode s = .prelude ∨ mode s = .active → ∃ t, dmaStep s = .stopped t ∧
      t = { s with fault := true, response := t.response, draws := t.draws } ∧ t.response.fault = true ∧
      t.response.violation =
        some (if Target.oam.covers s.dmaSrc then ⟨.get, s.dmaSrc⟩ else ⟨.set, s.dmaIdx⟩))

/-- R150: a trigger, from every mode. -/
def Obligations.DmaTriggerStartsAndMovesTheFirstByte : Prop :=
  ∀ (s : State) (v : Byte), s.fault = false →
    (mode s = .hblank ∨ mode s = .vblank → ∃ b t r n, exec (.storeDma v) s = .next t ∧
      t = { s with
        oam := s.oam.set 0 b, dmaSrc := v ++ 0x01#8, dmaIdx := 1, response := r, draws := n } ∧
      r.fault = false ∧ r.rdata = 0 ∧
      ∃ u, exec (decode (CommandWord.mk 1 (v ++ 0x00#8) 0)) s = .next u ∧ u.response.rdata = b) ∧
    (mode s = .prelude ∨ mode s = .active → ∃ t r n, exec (.storeDma v) s = .next t ∧
      t = { s with fault := true, dmaSrc := v ++ 0x00#8, dmaIdx := 0, response := r, draws := n } ∧
      r.fault = true ∧ r.rdata = 0)

/-- R121, R123, R124, R125 (D3, D4, D7, D8): what the video tick does to every state, and what it leaves. -/
def Obligations.VideoTickAdvancesThePosition : Prop :=
  ∀ s : State,
    (let endOfLine := !decide (s.col < 455)
     let line' : BitVec 8 := if endOfLine then (if s.line < 154 then s.line + 1 else 0) else s.line
     let enters := endOfLine && decide (s.line < 154) && decide (line' = 144)
     videoTick s = { s with
       col := if endOfLine then 0 else s.col + 1
       line := line'
       itVblank := s.itVblank || enters
       itLcd := s.itLcd || (endOfLine && decide (line' = s.vregs.lyc))
       flips := if enters then s.flips + 1 else s.flips
       response := if enters then { s.response with flip := true } else s.response })

/-- R121, R123, R124, R125, R200 (D3, D4, D7, D8): a tick while no transfer is in progress. -/
def Obligations.TickAdvancesTheRaster : Prop :=
  ∀ s : State, s.fault = false → 160 ≤ s.dmaIdx →
    (let endOfLine := !decide (s.col < 455)
     let line' : BitVec 8 := if endOfLine then (if s.line < 154 then s.line + 1 else 0) else s.line
     let enters := endOfLine && decide (s.line < 154) && decide (line' = 144)
     exec .step s = .next { s with
       col := if endOfLine then 0 else s.col + 1
       line := line'
       itVblank := s.itVblank || enters
       itLcd := s.itLcd || (endOfLine && decide (line' = s.vregs.lyc))
       flips := if enters then s.flips + 1 else s.flips
       timer := Config.timerStep s.timer
       response := { Response.quiet with flip := enters } })

/-- R200: video, then DMA on what the video tick left, then the timer; a DMA step that faults skips the timer. -/
def Obligations.StepIsVideoThenDmaThenTimer : Prop :=
  ∀ s : State, s.fault = false →
    (∀ t, dmaStep (videoTick { s with response := Response.quiet }) = .ok () t →
      exec .step s = .next { t with timer := Config.timerStep s.timer } ∧ t.timer = s.timer ∧ t.response.rdata = 0) ∧
    (∀ t, dmaStep (videoTick { s with response := Response.quiet }) = .stopped t →
      exec .step s = .next t ∧ t.timer = s.timer ∧ t.fault = true)

/-- R151, R200: a `STEP` during a transfer, with OAM open after its video tick. -/
def Obligations.TickMovesOneTransferByte : Prop :=
  ∀ s : State, s.fault = false → s.dmaIdx < 160 →
    mode (videoTick s) = .hblank ∨ mode (videoTick s) = .vblank →
    ∃ b t u, ∃ h : s.dmaIdx.toNat < 160, exec .step s = .next t ∧ busRead s.dmaSrc (videoTick s) = .ok b u ∧
      t = { videoTick s with
        oam := s.oam.set s.dmaIdx.toNat b, dmaSrc := s.dmaSrc + 1, dmaIdx := s.dmaIdx + 1
        timer := Config.timerStep s.timer, response := t.response, draws := t.draws } ∧
      t.response.rdata = 0

/-- R156, R200 (D29; log 17): what a `STEP` whose DMA step faults leaves. -/
def Obligations.FaultingDmaStepLeavesTheTransfer : Prop :=
  ∀ s : State, s.fault = false → s.dmaIdx < 160 →
    mode (videoTick s) = .prelude ∨ mode (videoTick s) = .active →
    ∃ t, exec .step s = .next t ∧ t.response.fault = true ∧ t.oam = s.oam ∧ t.dmaSrc = s.dmaSrc ∧
      t.dmaIdx = s.dmaIdx ∧ t.timer = s.timer ∧
      t = { videoTick s with fault := true, response := t.response, draws := t.draws }

/-- R125: `Flip` is emitted by the tick that takes `line` from 143 to 144 and by nothing else. -/
def Obligations.FlipExactlyOnEnteringLine144 : Prop :=
  ∀ (i : Instr) (s t : State), exec i s = .next t →
    (t.response.flip = true ↔ i = .step ∧ s.line = 143 ∧ t.line = 144) ∧
    t.flips = s.flips + (if t.response.flip then 1 else 0)

/-- R171, R172: peek names the first of vblank, lcd, timer that is enabled and latched, and changes nothing. -/
def Obligations.PeekReturnsTheFirstPendingSource : Prop :=
  ∀ s : State, s.fault = false →
    exec .irqPeek s = .next { s with
      response := irqResponse
        (if s.ie.vblank && s.itVblank then some .vblank
         else if s.ie.lcd && s.itLcd then some .lcd
         else if s.ie.timer && s.timer.latch then some .timer else none) }

/-- R173: acknowledge answers as peek does and clears the latch of the source it returns, no other latch and no enable. -/
def Obligations.AcknowledgeClearsTheReturnedLatch : Prop :=
  ∀ s : State, s.fault = false → ∃ r, exec .irqPeek s = .next { s with response := irqResponse r } ∧
    exec .irqAck s = .next { s with
      itVblank := s.itVblank && decide (r ≠ some .vblank)
      itLcd := s.itLcd && decide (r ≠ some .lcd)
      timer := if r = some .timer then { Config.timerAck s.timer with latch := false } else s.timer
      response := irqResponse r }

/-- R174: successive acknowledges return the pending enabled sources in priority order, one each, and then none. -/
def Obligations.SuccessiveAcknowledgesReturnAllInOrder : Prop :=
  ∀ s : State, s.fault = false → ∃ l t1 t2 t3 t4, l = [t1, t2, t3, t4] ∧
    exec .irqAck s = .next t1 ∧ exec .irqAck t1 = .next t2 ∧ exec .irqAck t2 = .next t3 ∧ exec .irqAck t3 = .next t4 ∧
    (let pending := (if s.ie.vblank && s.itVblank then [Source.vblank] else []) ++
       (if s.ie.lcd && s.itLcd then [Source.lcd] else []) ++
       (if s.ie.timer && s.timer.latch then [Source.timer] else [])
     l.map (fun t => t.response.irq) = (pending.map some ++ List.replicate 4 none).take 4)

/-- R321, R46 (D12 to D16, D28): `RESET` gives the power-on state, but for the cartridge's own reset, the snapshot, the count
of flips and the model's own fields. -/
def Obligations.ResetRestoresThePowerOnState : Prop :=
  ∀ s : State, s.fault = false →
    exec .reset s = .next { State.reset with
      cart := Config.cartReset s.cart, pad := s.pad, flips := s.flips, pending := s.pending, draws := s.draws }

/-- R24, R135 (derived rule): the raster position changes by `STEP` and `RESET` alone. -/
def Obligations.OnlyTicksAndResetMoveThePosition : Prop :=
  ∀ (i : Instr) (s t : State), exec i s = .next t → i ≠ .step → i ≠ .reset → t.line = s.line ∧ t.col = s.col

/-- R31, R281, R321: the enable flags change by `STORE.IE` and `RESET` alone. -/
def Obligations.OnlyEnableStoreAndResetWriteEnables : Prop :=
  ∀ (i : Instr) (s t : State), exec i s = .next t → t.ie ≠ s.ie → i = .reset ∨ ∃ v, i = .storeIe v

/-- R29, R123, R124, R173, R247 (D7, D8): a video latch rises only in `STEP` or `STORE.IF` and falls only by `IRQ_ACK`,
`STORE.IF` or `RESET`. -/
def Obligations.VideoLatchesAreSticky : Prop :=
  ∀ (i : Instr) (s t : State), exec i s = .next t →
    (s.itVblank = false → t.itVblank = true → i = .step ∨ ∃ v, i = .storeIf v) ∧
    (s.itLcd = false → t.itLcd = true → i = .step ∨ ∃ v, i = .storeIf v) ∧
    (s.itVblank = true → t.itVblank = false → i = .irqAck ∨ i = .reset ∨ ∃ v, i = .storeIf v) ∧
    (s.itLcd = true → t.itLcd = false → i = .irqAck ∨ i = .reset ∨ ∃ v, i = .storeIf v)

/-- R130, R291 (D5, D6): only four operations raise the fault, only with OAM locked at the access. -/
def Obligations.OnlyLockedOamAccessesFault : Prop :=
  ∀ (i : Instr) (s t : State), exec i s = .next t → s.fault = false → t.fault = true →
    (mode t = .prelude ∨ mode t = .active) ∧
    (i = .step ∨ (∃ v, i = .storeDma v) ∨ (∃ a, i = .fetchOam a) ∨ ∃ a v, i = .storeOam a v)

/-- R128, R130, R132, R150, R321 (D5): OAM changes only by `RESET`, and otherwise only when HBlank or VBlank holds after the
command, by `STEP`, `STORE.OAM` or `STORE.DMA`. -/
def Obligations.LockedOamNeverChanges : Prop :=
  ∀ (i : Instr) (s t : State), exec i s = .next t → t.oam ≠ s.oam →
    i = .reset ∨ ((mode t = .hblank ∨ mode t = .vblank) ∧
      (i = .step ∨ (∃ v, i = .storeDma v) ∨ ∃ a v, i = .storeOam a v))

/-- R65 (derived rule): a `FETCH` changes nothing but the response, the OAM fault and, in gated video memory, the model's
count of draws. -/
def Obligations.FetchHasNoSideEffect : Prop :=
  ∀ (s : State) (a : Addr) (v : Byte), ∃ t, exec (decode (CommandWord.mk 1 a v)) s = .next t ∧
    t = { s with fault := t.fault, response := t.response, draws := t.draws } ∧
    (¬ (Target.oam.covers a = true ∧ (mode s = .prelude ∨ mode s = .active)) → t.fault = s.fault) ∧
    (¬ (Target.vram.covers a = true ∧ mode s = .active) → t.draws = s.draws)

/-- R122 (derived rule; D3, D4): the position and the flips after any number of ticks from the start of a frame. -/
def Obligations.RasterFollowsTheFrameGeometry : Prop :=
  ∀ (s : State) (n : Nat), s.fault = false → 160 ≤ s.dmaIdx → s.line = 0 → s.col = 0 →
    ∃ t, stepN n s = .next t ∧ t.fault = false ∧ t.line.toNat = n / 456 % 155 ∧ t.col.toNat = n % 456 ∧
      t.flips = s.flips + (n + 5016) / 70680

/-- R330 (derived rule): a `line` read as 144 or more makes OAM safe for `(154 - line) x 456` further ticks. -/
def Obligations.OamStaysOpenAfterReadingVblankLine : Prop :=
  ∀ (s t : State) (n : Nat), RasterInRange s → 144 ≤ s.line → n ≤ (154 - s.line.toNat) * 456 → stepN n s = .next t →
    mode t = .vblank

/-- R157 (derived rule; C3): bytes of an internal RAM page in OAM after the trigger and `k` ticks, from a safe position. -/
def Obligations.DmaTransferTimeline : Prop :=
  ∀ (s : State) (page : Byte) (k : Nat), s.fault = false → DmaSafeStart s.line s.col → 0xc0 ≤ page → page ≤ 0xdf →
    ∃ t, dmaThenSteps page k s = .next t ∧ t.fault = false ∧ t.dmaIdx.toNat = min (k + 1) 160 ∧
      t.dmaSrc = (page ++ 0x00#8) + t.dmaIdx ∧ t.wram = s.wram ∧
      ∀ i : Fin 160, t.oam[i] =
        if i.val ≤ k then Memory.byte s.wram ((page.toNat - 0xc0) * 256 + i.val) else s.oam[i]

/-- R159, R331 (derived rule): a transfer from any page completes without a fault exactly from the safe positions. -/
def Obligations.DmaCompletesExactlyFromSafePositions : Prop :=
  ∀ (s : State) (page : Byte), s.fault = false → RasterInRange s →
    ∃ t, dmaThenSteps page 159 s = .next t ∧ (t.fault = false ↔ DmaSafeStart s.line s.col) ∧
      (t.fault = false → t.dmaIdx = 160 ∧ t.dmaSrc = page ++ 0xa0#8)

/-- R104 (D26; log 28): `STEPN`, `DMA` and `EI` are the commands they stand for, from every state, the faulted ones too. -/
def Obligations.PseudoCommandsExpandToCommands : Prop :=
  ∀ s : State,
    (∀ n : Nat, ∃ t rs, runPseudo (.stepN n) s = some (t, rs) ∧ stepN n s = .next t ∧ rs.length = n ∧
      (∀ k u, k < n → stepN (k + 1) s = .next u → rs[k]? = some u.response) ∧
      t.flips = s.flips + rs.countP (fun r => r.flip)) ∧
    (∀ p : Byte, ∃ t, exec (.storeDma p) s = .next t ∧ runPseudo (.dma p) s = some (t, [t.response])) ∧
    (∀ m : Byte, ∃ t, exec (.storeIe m) s = .next t ∧ runPseudo (.ei m) s = some (t, [t.response]))

/-- R104 (D26; log 28), with R122 and R174: `WAITLINE` of a line of the raster ends within 70680 `STEP`s, at the first one
that leaves that line, unless a transfer in progress faults; `ACKALL` answers the pending enabled sources in order, at most
three, and then none, and leaves none pending. -/
def Obligations.WaitLineAndAckAllEnd : Prop :=
  ∀ s : State, s.fault = false →
    (∀ n : Byte, RasterInRange s → n ≤ 154 →
      (∃ k t u rs, 1 ≤ k ∧ k ≤ 70680 ∧ stepN k s = .next u ∧ u.line = n ∧
        (∀ j w, 1 ≤ j → j < k → stepN j s = .next w → w.line ≠ n) ∧
        runPseudo (.waitLine n) s = some (t, rs) ∧ t = { u with response := byteResponse n } ∧ rs.length = 2 * k) ∨
      (s.dmaIdx < 160 ∧ ∃ j w, j ≤ 70680 ∧ stepN j s = .next w ∧ w.fault = true)) ∧
    ∃ t rs, runPseudo .ackAll s = some (t, rs) ∧
      (let pending := (if s.ie.vblank && s.itVblank then [Source.vblank] else []) ++
         (if s.ie.lcd && s.itLcd then [Source.lcd] else []) ++
         (if s.ie.timer && s.timer.latch then [Source.timer] else [])
       rs.map (fun r => r.irq) = pending.map some ++ [none]) ∧
      rs.countP (fun r => r.irq.isSome) ≤ 3 ∧
      exec .irqPeek t = .next { t with response := irqResponse none }
end

