-- ==== Sys2Proof/Laws/Decode.lean ====
section
/-! SUPPORT. The fields of a command word (R91), and what an address selects (R95, R192, R230). -/

namespace Sys2Proof

@[simp] theorem CommandWord.op_mk (op : BitVec 3) (a : Addr) (v : Byte) : CommandWord.op (CommandWord.mk op a v) = op := by
  ext i hi
  simp only [CommandWord.op, CommandWord.mk, BitVec.getElem_extractLsb', BitVec.getLsbD_append]
  simp [show ¬ 24 + i < 8 by omega, show ¬ 24 + i - 8 < 16 by omega, show 24 + i - 8 - 16 = i by omega,
    BitVec.getLsbD_eq_getElem hi]

@[simp] theorem CommandWord.addr_mk (op : BitVec 3) (a : Addr) (v : Byte) :
    CommandWord.addr (CommandWord.mk op a v) = a := by
  ext i hi
  simp only [CommandWord.addr, CommandWord.mk, BitVec.getElem_extractLsb', BitVec.getLsbD_append]
  simp [show ¬ 8 + i < 8 by omega, hi]

@[simp] theorem CommandWord.data_mk (op : BitVec 3) (a : Addr) (v : Byte) :
    CommandWord.data (CommandWord.mk op a v) = v := by
  ext i hi
  simp only [CommandWord.data, CommandWord.mk, BitVec.getElem_extractLsb', BitVec.getLsbD_append]
  simp [hi]

theorem inRange_iff {lo hi a : Addr} : inRange lo hi a = true ↔ lo.toNat ≤ a.toNat ∧ a.toNat ≤ hi.toNat := by
  simp [inRange, BitVec.le_def]

/-- The I/O offset of an address as a number. -/
theorem toNat_ioOffset (a : Addr) : (a.extractLsb' 0 8).toNat = a.toNat % 256 := by
  simp [BitVec.extractLsb'_toNat]

theorem toNat_ioAddr (o : BitVec 8) : (ioAddr o).toNat = 0xff00 + o.toNat := by
  have := o.isLt
  simp only [ioAddr, BitVec.toNat_append, BitVec.toNat_ofNat]
  rw [← Nat.shiftLeft_add_eq_or_of_lt (by omega), Nat.shiftLeft_eq]

theorem ioOffset_eq_iff {a : Addr} (h : inRange 0xff00 0xff4b a = true) (o : BitVec 8) :
    a.extractLsb' 0 8 = o ↔ a = ioAddr o := by
  have h := inRange_iff.1 h
  have := o.isLt
  rw [← BitVec.toNat_inj, ← BitVec.toNat_inj, toNat_ioOffset, toNat_ioAddr]
  simp at h
  omega

set_option maxRecDepth 4000 in
/-- The lookup of every offset of the I/O window gives the one target that covers its address (R230). -/
theorem ioTargetOf_eq_iff (n : Fin 76) (t : Target) :
    ioTargetOf (BitVec.ofNat 8 n.val) = t ↔ t.covers (ioAddr (BitVec.ofNat 8 n.val)) = true := by
  revert n
  cases t <;> decide

theorem ioWindow_iff {a : Addr} : inRange 0xff00 0xff4b a = true ↔ ∃ n : Fin 76, a = ioAddr (BitVec.ofNat 8 n.val) := by
  have h1 : (0xff00 : Addr).toNat = 65280 := rfl
  have h2 : (0xff4b : Addr).toNat = 65355 := rfl
  rw [inRange_iff, h1, h2]
  constructor
  · intro h
    refine ⟨⟨a.toNat - 65280, by omega⟩, ?_⟩
    rw [← BitVec.toNat_inj, toNat_ioAddr, BitVec.toNat_ofNat]
    simp only
    omega
  · rintro ⟨n, rfl⟩
    rw [toNat_ioAddr, BitVec.toNat_ofNat]
    have := n.isLt
    omega

theorem ioOffset_ioAddr (o : BitVec 8) : (ioAddr o).extractLsb' 0 8 = o := by
  have := o.isLt
  rw [← BitVec.toNat_inj, toNat_ioOffset, toNat_ioAddr]
  omega

theorem targetOf_ioAddr (n : Fin 76) :
    targetOf (ioAddr (BitVec.ofNat 8 n.val)) = ioTargetOf (BitVec.ofNat 8 n.val) := by
  have hn := n.isLt
  have hio : inRange 0xff00 0xff4b (ioAddr (BitVec.ofNat 8 n.val)) = true := ioWindow_iff.2 ⟨n, rfl⟩
  unfold targetOf
  rw [if_pos hio, ioOffset_ioAddr]
  simp only [inRange_iff, toNat_ioAddr, BitVec.reduceToNat, BitVec.toNat_ofNat, Nat.reducePow]
  iterate 6 rw [if_neg (by omega)]

theorem covers_targetOf (a : Addr) : (targetOf a).covers a = true := by
  have ha := a.isLt
  by_cases hio : inRange 0xff00 0xff4b a = true
  · obtain ⟨n, rfl⟩ := ioWindow_iff.1 hio
    rw [targetOf_ioAddr, ← ioTargetOf_eq_iff]
  · unfold targetOf
    rw [if_neg hio]
    split_ifs with h1 h2 h3 h4 h5 h6 h7 h8
    all_goals try assumption
    · subst h8; decide
    · simp only [Target.covers, inRange_iff, BitVec.reduceToNat, ← BitVec.toNat_inj, Bool.or_eq_true] at *
      omega

/-- No address is covered by two targets (R49, R106, R192). -/
theorem targetOf_eq {a : Addr} {t : Target} (h : t.covers a = true) : targetOf a = t := by
  by_cases hio : inRange 0xff00 0xff4b a = true
  · obtain ⟨n, rfl⟩ := ioWindow_iff.1 hio
    rw [targetOf_ioAddr, ioTargetOf_eq_iff]
    exact h
  · have hc := covers_targetOf a
    have ha := a.isLt
    generalize targetOf a = u at hc
    simp only [inRange_iff, BitVec.reduceToNat] at hio
    cases t <;> simp only [Target.covers, inRange_iff, BitVec.reduceToNat, Bool.or_eq_true] at h <;> try omega
    all_goals
      cases u <;> simp only [Target.covers, inRange_iff, BitVec.reduceToNat, Bool.or_eq_true] at hc <;>
        first | rfl | (exfalso; omega)

/-- What an address selects: the target whose ranges hold it (R48, R95, R100, R192). -/
theorem targetOf_eq_iff (a : Addr) (t : Target) : targetOf a = t ↔ t.covers a = true :=
  ⟨fun h => h ▸ covers_targetOf a, targetOf_eq⟩

/-- A `FETCH` command word decodes by its address (R95). -/
theorem decode_mk_fetch (a : Addr) (v : Byte) : decode (CommandWord.mk 1 a v) = fetchOf (targetOf a) a := by
  simp [decode]

/-- A `STORE` command word decodes by its address (R95). -/
theorem decode_mk_store (a : Addr) (v : Byte) : decode (CommandWord.mk 2 a v) = storeOf (targetOf a) a v := by
  simp [decode]

end Sys2Proof
end

