-- ==== Sys2Proof/Laws/Memory.lean ====
section
/-! SUPPORT. The laws of a byte store (R37): a read after a write, the canonical form, and that every memory operation
keeps it. -/

namespace Sys2Proof.Machine

@[simp] theorem Memory.byte_nil (o : Nat) : Memory.byte [] o = 0 := rfl

theorem Memory.byte_cons (c : Host.Cell) (m : Memory) (o : Nat) :
    Memory.byte (c :: m) o = if c.1 = o then c.2 else Memory.byte m o := rfl

/-- An offset that is not listed reads as an unlisted one. -/
theorem Memory.byte_of_forall_ne {m : Memory} {o : Nat} (h : ∀ c ∈ m, c.1 ≠ o) : Memory.byte m o = unlistedByte := by
  induction m with
  | nil => rfl
  | cons c m ih =>
    rw [Memory.byte_cons, if_neg (h c (by simp))]
    exact ih fun d hd => h d (by simp [hd])

theorem Memory.mem_erase {m : Memory} {o : Nat} {c : Host.Cell} : c ∈ Memory.erase m o ↔ c ∈ m ∧ c.1 ≠ o := by
  simp [Memory.erase, List.mem_filter]

theorem Memory.byte_erase (m : Memory) (o p : Nat) :
    Memory.byte (Memory.erase m o) p = if p = o then unlistedByte else Memory.byte m p := by
  split_ifs with hp
  · subst hp
    exact Memory.byte_of_forall_ne fun c hc => (Memory.mem_erase.1 hc).2
  · induction m with
    | nil => rfl
    | cons c m ih =>
      by_cases hc : c.1 = o
      · simpa [Memory.erase, Memory.byte_cons, hc, Ne.symm hp] using ih
      · simpa [Memory.erase, Memory.byte_cons, hc] using congrArg (fun b => if c.1 = p then c.2 else b) ih

theorem Memory.byte_insert {m : Memory} {o : Nat} (h : ∀ c ∈ m, c.1 ≠ o) (v : Byte) (p : Nat) :
    Memory.byte (Memory.insert m o v) p = if p = o then v else Memory.byte m p := by
  induction m with
  | nil => simp [Memory.insert, Memory.byte_cons, eq_comm]
  | cons c m ih =>
    have hc := h c (by simp)
    have ih := ih fun d hd => h d (by simp [hd])
    simp only [Memory.insert]
    by_cases hlt : o < c.1
    · simp [hlt, Memory.byte_cons, eq_comm]
    · rw [if_neg hlt, Memory.byte_cons, Memory.byte_cons, ih]
      by_cases hp : p = o
      · subst hp; simp [hc]
      · simp [hp]

/-- `byte` after `set_byte`: the byte written at its offset, and the old byte at every other (R37). -/
theorem Memory.byte_write (m : Memory) (o : Nat) (v : Byte) (p : Nat) :
    Memory.byte (Memory.write m o v) p = if p = o then v else Memory.byte m p := by
  unfold Memory.write
  split_ifs with hv hp hp
  · simp [Memory.byte_erase, hp, hv]
  · simp [Memory.byte_erase, hp]
  · rw [Memory.byte_insert fun c hc => (Memory.mem_erase.1 hc).2]; simp [hp]
  · rw [Memory.byte_insert fun c hc => (Memory.mem_erase.1 hc).2]; simp [hp, Memory.byte_erase]

@[simp] theorem Memory.byte_write_same (m : Memory) (o : Nat) (v : Byte) : Memory.byte (Memory.write m o v) o = v := by
  simp [Memory.byte_write]

theorem Memory.byte_write_other (m : Memory) {o p : Nat} (v : Byte) (h : p ≠ o) :
    Memory.byte (Memory.write m o v) p = Memory.byte m p := by
  simp [Memory.byte_write, h]

theorem Memory.mem_insert {m : Memory} {o : Nat} {v : Byte} {c : Host.Cell} :
    c ∈ Memory.insert m o v ↔ c = (o, v) ∨ c ∈ m := by
  induction m with
  | nil => simp [Memory.insert]
  | cons d m ih =>
    simp only [Memory.insert]
    split_ifs
    · simp
    · simp only [List.mem_cons, ih]; tauto

/-- What a write can list: the offset written, and what was listed before. -/
theorem Memory.mem_write {m : Memory} {o : Nat} {v : Byte} {c : Host.Cell} (h : c ∈ Memory.write m o v) :
    c.1 = o ∨ c ∈ m := by
  unfold Memory.write at h
  split_ifs at h
  · exact .inr (Memory.mem_erase.1 h).1
  · rcases Memory.mem_insert.1 h with rfl | h
    · exact .inl rfl
    · exact .inr (Memory.mem_erase.1 h).1

theorem Memory.wf_nil : Memory.wf [] := by simp [Memory.wf]

theorem Memory.wf_erase {m : Memory} (h : Memory.wf m) (o : Nat) : Memory.wf (Memory.erase m o) :=
  ⟨h.1.filter _, fun c hc => h.2 c (Memory.mem_erase.1 hc).1⟩

theorem Memory.wf_insert {m : Memory} (h : Memory.wf m) {o : Nat} {v : Byte} (hv : v ≠ unlistedByte)
    (ho : ∀ c ∈ m, c.1 ≠ o) : Memory.wf (Memory.insert m o v) := by
  refine ⟨?_, fun c hc => ?_⟩
  · induction m with
    | nil => simp [Memory.insert]
    | cons d m ih =>
      obtain ⟨hp, hn⟩ := h
      have hd := ho d (by simp)
      have hp' := List.pairwise_cons.1 hp
      simp only [Memory.insert]
      split_ifs with hlt
      · refine List.pairwise_cons.2 ⟨fun c hc => ?_, hp⟩
        rcases List.mem_cons.1 hc with rfl | hc
        · exact hlt
        · exact Nat.lt_trans hlt (hp'.1 c hc)
      · refine List.pairwise_cons.2 ⟨fun c hc => ?_, ?_⟩
        · rcases Memory.mem_insert.1 hc with rfl | hc
          · simp only; omega
          · exact hp'.1 c hc
        · exact ih ⟨hp'.2, fun c hc => hn c (by simp [hc])⟩ fun c hc => ho c (by simp [hc])
  · rcases Memory.mem_insert.1 hc with rfl | hc
    · exact hv
    · exact h.2 c hc

/-- A write keeps the canonical form. -/
theorem Memory.wf_write {m : Memory} (h : Memory.wf m) (o : Nat) (v : Byte) : Memory.wf (Memory.write m o v) := by
  unfold Memory.write
  split_ifs with hv
  · exact Memory.wf_erase h o
  · exact Memory.wf_insert (Memory.wf_erase h o) hv fun c hc => (Memory.mem_erase.1 hc).2

theorem StoreIn.nil (n : Nat) : StoreIn n [] := ⟨Memory.wf_nil, by simp⟩

/-- A write inside a store keeps it canonical and inside its size. -/
theorem StoreIn.write {n : Nat} {m : Memory} (h : StoreIn n m) {o : Nat} (ho : o < n) (v : Byte) :
    StoreIn n (Memory.write m o v) := by
  refine ⟨Memory.wf_write h.1 o v, fun c hc => ?_⟩
  rcases Memory.mem_write hc with hc | hc
  · omega
  · exact h.2 c hc

/-- Two stores in canonical form that read alike are the same data. -/
theorem Memory.ext {m n : Memory} (hm : Memory.wf m) (hn : Memory.wf n)
    (h : ∀ o, Memory.byte m o = Memory.byte n o) : m = n := by
  have head_ne : ∀ {c : Host.Cell} {l : Memory}, Memory.wf (c :: l) → Memory.byte (c :: l) c.1 ≠ unlistedByte := by
    intro c l hw
    simpa [Memory.byte_cons] using hw.2 c (by simp)
  have below : ∀ {c : Host.Cell} {l : Memory} {o : Nat}, Memory.wf (c :: l) → o < c.1 →
      Memory.byte (c :: l) o = unlistedByte := by
    intro c l o hw ho
    refine Memory.byte_of_forall_ne fun d hd => ?_
    rcases List.mem_cons.1 hd with rfl | hd
    · omega
    · have := (List.pairwise_cons.1 hw.1).1 d hd
      omega
  induction m generalizing n with
  | nil =>
    cases n with
    | nil => rfl
    | cons d n => exact absurd (h d.1).symm (head_ne hn)
  | cons c m ih =>
    cases n with
    | nil => exact absurd (h c.1) (head_ne hm)
    | cons d n =>
      have hcd : c.1 = d.1 := by
        rcases Nat.lt_trichotomy c.1 d.1 with hlt | heq | hgt
        · exact absurd ((h c.1).trans (below hn hlt)) (head_ne hm)
        · exact heq
        · exact absurd ((h d.1).symm.trans (below hm hgt)) (head_ne hn)
      have hval : c.2 = d.2 := by simpa [Memory.byte_cons, hcd] using h c.1
      have hm' : Memory.wf m := ⟨(List.pairwise_cons.1 hm.1).2, fun e he => hm.2 e (by simp [he])⟩
      have hn' : Memory.wf n := ⟨(List.pairwise_cons.1 hn.1).2, fun e he => hn.2 e (by simp [he])⟩
      have htail : ∀ o, Memory.byte m o = Memory.byte n o := by
        intro o
        by_cases ho : o = c.1
        · subst ho
          rw [Memory.byte_of_forall_ne fun e he => Nat.ne_of_gt ((List.pairwise_cons.1 hm.1).1 e he),
            Memory.byte_of_forall_ne fun e he => by
              rw [hcd]; exact Nat.ne_of_gt ((List.pairwise_cons.1 hn.1).1 e he)]
        · have h1 : c.1 ≠ o := Ne.symm ho
          have h2 : d.1 ≠ o := hcd ▸ h1
          simpa [Memory.byte_cons, h1, h2] using h o
      rw [Prod.ext hcd hval, ih hm' hn' htail]

end Sys2Proof.Machine
end

