-- ==== Sys2Proof/Laws/State.lean ====
section
/-! SUPPORT. For each named update of the state, what each field is after it, so that no later proof unfolds a record
update. -/

namespace Sys2Proof.Machine

variable (s : State)

@[simp] theorem emitFlip_line : (emitFlip s).line = s.line := rfl
@[simp] theorem emitFlip_col : (emitFlip s).col = s.col := rfl
@[simp] theorem emitFlip_oam : (emitFlip s).oam = s.oam := rfl
@[simp] theorem emitFlip_vram : (emitFlip s).vram = s.vram := rfl
@[simp] theorem emitFlip_vregs : (emitFlip s).vregs = s.vregs := rfl
@[simp] theorem emitFlip_itVblank : (emitFlip s).itVblank = s.itVblank := rfl
@[simp] theorem emitFlip_itLcd : (emitFlip s).itLcd = s.itLcd := rfl
@[simp] theorem emitFlip_ioShadow : (emitFlip s).ioShadow = s.ioShadow := rfl
@[simp] theorem emitFlip_ie : (emitFlip s).ie = s.ie := rfl
@[simp] theorem emitFlip_dmaSrc : (emitFlip s).dmaSrc = s.dmaSrc := rfl
@[simp] theorem emitFlip_dmaIdx : (emitFlip s).dmaIdx = s.dmaIdx := rfl
@[simp] theorem emitFlip_wram : (emitFlip s).wram = s.wram := rfl
@[simp] theorem emitFlip_zram : (emitFlip s).zram = s.zram := rfl
@[simp] theorem emitFlip_fault : (emitFlip s).fault = s.fault := rfl
@[simp] theorem emitFlip_cart : (emitFlip s).cart = s.cart := rfl
@[simp] theorem emitFlip_timer : (emitFlip s).timer = s.timer := rfl
@[simp] theorem emitFlip_pad : (emitFlip s).pad = s.pad := rfl
@[simp] theorem emitFlip_flips : (emitFlip s).flips = s.flips + 1 := rfl
@[simp] theorem emitFlip_pending : (emitFlip s).pending = s.pending := rfl
@[simp] theorem emitFlip_response : (emitFlip s).response = { s.response with flip := true } := rfl
@[simp] theorem emitFlip_draws : (emitFlip s).draws = s.draws := rfl

@[simp] theorem emitDiag_line (k : BusAccess) (a : Addr) : (emitDiag k a s).line = s.line := rfl
@[simp] theorem emitDiag_col (k : BusAccess) (a : Addr) : (emitDiag k a s).col = s.col := rfl
@[simp] theorem emitDiag_oam (k : BusAccess) (a : Addr) : (emitDiag k a s).oam = s.oam := rfl
@[simp] theorem emitDiag_vram (k : BusAccess) (a : Addr) : (emitDiag k a s).vram = s.vram := rfl
@[simp] theorem emitDiag_vregs (k : BusAccess) (a : Addr) : (emitDiag k a s).vregs = s.vregs := rfl
@[simp] theorem emitDiag_itVblank (k : BusAccess) (a : Addr) : (emitDiag k a s).itVblank = s.itVblank := rfl
@[simp] theorem emitDiag_itLcd (k : BusAccess) (a : Addr) : (emitDiag k a s).itLcd = s.itLcd := rfl
@[simp] theorem emitDiag_ioShadow (k : BusAccess) (a : Addr) : (emitDiag k a s).ioShadow = s.ioShadow := rfl
@[simp] theorem emitDiag_ie (k : BusAccess) (a : Addr) : (emitDiag k a s).ie = s.ie := rfl
@[simp] theorem emitDiag_dmaSrc (k : BusAccess) (a : Addr) : (emitDiag k a s).dmaSrc = s.dmaSrc := rfl
@[simp] theorem emitDiag_dmaIdx (k : BusAccess) (a : Addr) : (emitDiag k a s).dmaIdx = s.dmaIdx := rfl
@[simp] theorem emitDiag_wram (k : BusAccess) (a : Addr) : (emitDiag k a s).wram = s.wram := rfl
@[simp] theorem emitDiag_zram (k : BusAccess) (a : Addr) : (emitDiag k a s).zram = s.zram := rfl
@[simp] theorem emitDiag_fault (k : BusAccess) (a : Addr) : (emitDiag k a s).fault = s.fault := rfl
@[simp] theorem emitDiag_cart (k : BusAccess) (a : Addr) : (emitDiag k a s).cart = s.cart := rfl
@[simp] theorem emitDiag_timer (k : BusAccess) (a : Addr) : (emitDiag k a s).timer = s.timer := rfl
@[simp] theorem emitDiag_pad (k : BusAccess) (a : Addr) : (emitDiag k a s).pad = s.pad := rfl
@[simp] theorem emitDiag_flips (k : BusAccess) (a : Addr) : (emitDiag k a s).flips = s.flips := rfl
@[simp] theorem emitDiag_pending (k : BusAccess) (a : Addr) : (emitDiag k a s).pending = s.pending := rfl
@[simp] theorem emitDiag_response (k : BusAccess) (a : Addr) : (emitDiag k a s).response = { s.response with diag := some ⟨k, a⟩ } := rfl
@[simp] theorem emitDiag_draws (k : BusAccess) (a : Addr) : (emitDiag k a s).draws = s.draws := rfl

@[simp] theorem raiseViolation_line (k : OamAccess) (a : Addr) : (raiseViolation k a s).line = s.line := rfl
@[simp] theorem raiseViolation_col (k : OamAccess) (a : Addr) : (raiseViolation k a s).col = s.col := rfl
@[simp] theorem raiseViolation_oam (k : OamAccess) (a : Addr) : (raiseViolation k a s).oam = s.oam := rfl
@[simp] theorem raiseViolation_vram (k : OamAccess) (a : Addr) : (raiseViolation k a s).vram = s.vram := rfl
@[simp] theorem raiseViolation_vregs (k : OamAccess) (a : Addr) : (raiseViolation k a s).vregs = s.vregs := rfl
@[simp] theorem raiseViolation_itVblank (k : OamAccess) (a : Addr) : (raiseViolation k a s).itVblank = s.itVblank := rfl
@[simp] theorem raiseViolation_itLcd (k : OamAccess) (a : Addr) : (raiseViolation k a s).itLcd = s.itLcd := rfl
@[simp] theorem raiseViolation_ioShadow (k : OamAccess) (a : Addr) : (raiseViolation k a s).ioShadow = s.ioShadow := rfl
@[simp] theorem raiseViolation_ie (k : OamAccess) (a : Addr) : (raiseViolation k a s).ie = s.ie := rfl
@[simp] theorem raiseViolation_dmaSrc (k : OamAccess) (a : Addr) : (raiseViolation k a s).dmaSrc = s.dmaSrc := rfl
@[simp] theorem raiseViolation_dmaIdx (k : OamAccess) (a : Addr) : (raiseViolation k a s).dmaIdx = s.dmaIdx := rfl
@[simp] theorem raiseViolation_wram (k : OamAccess) (a : Addr) : (raiseViolation k a s).wram = s.wram := rfl
@[simp] theorem raiseViolation_zram (k : OamAccess) (a : Addr) : (raiseViolation k a s).zram = s.zram := rfl
@[simp] theorem raiseViolation_fault (k : OamAccess) (a : Addr) : (raiseViolation k a s).fault = true := rfl
@[simp] theorem raiseViolation_cart (k : OamAccess) (a : Addr) : (raiseViolation k a s).cart = s.cart := rfl
@[simp] theorem raiseViolation_timer (k : OamAccess) (a : Addr) : (raiseViolation k a s).timer = s.timer := rfl
@[simp] theorem raiseViolation_pad (k : OamAccess) (a : Addr) : (raiseViolation k a s).pad = s.pad := rfl
@[simp] theorem raiseViolation_flips (k : OamAccess) (a : Addr) : (raiseViolation k a s).flips = s.flips := rfl
@[simp] theorem raiseViolation_pending (k : OamAccess) (a : Addr) : (raiseViolation k a s).pending = s.pending := rfl
@[simp] theorem raiseViolation_response (k : OamAccess) (a : Addr) : (raiseViolation k a s).response = { s.response with fault := true, violation := some ⟨k, a⟩ } := rfl
@[simp] theorem raiseViolation_draws (k : OamAccess) (a : Addr) : (raiseViolation k a s).draws = s.draws := rfl

@[simp] theorem refuse_line : (refuse s).line = s.line := rfl
@[simp] theorem refuse_col : (refuse s).col = s.col := rfl
@[simp] theorem refuse_oam : (refuse s).oam = s.oam := rfl
@[simp] theorem refuse_vram : (refuse s).vram = s.vram := rfl
@[simp] theorem refuse_vregs : (refuse s).vregs = s.vregs := rfl
@[simp] theorem refuse_itVblank : (refuse s).itVblank = s.itVblank := rfl
@[simp] theorem refuse_itLcd : (refuse s).itLcd = s.itLcd := rfl
@[simp] theorem refuse_ioShadow : (refuse s).ioShadow = s.ioShadow := rfl
@[simp] theorem refuse_ie : (refuse s).ie = s.ie := rfl
@[simp] theorem refuse_dmaSrc : (refuse s).dmaSrc = s.dmaSrc := rfl
@[simp] theorem refuse_dmaIdx : (refuse s).dmaIdx = s.dmaIdx := rfl
@[simp] theorem refuse_wram : (refuse s).wram = s.wram := rfl
@[simp] theorem refuse_zram : (refuse s).zram = s.zram := rfl
@[simp] theorem refuse_fault : (refuse s).fault = s.fault := rfl
@[simp] theorem refuse_cart : (refuse s).cart = s.cart := rfl
@[simp] theorem refuse_timer : (refuse s).timer = s.timer := rfl
@[simp] theorem refuse_pad : (refuse s).pad = s.pad := rfl
@[simp] theorem refuse_flips : (refuse s).flips = s.flips := rfl
@[simp] theorem refuse_pending : (refuse s).pending = s.pending := rfl
@[simp] theorem refuse_response : (refuse s).response = refusedResponse s.fault := rfl
@[simp] theorem refuse_draws : (refuse s).draws = s.draws := rfl

@[simp] theorem beginCommand_line : (beginCommand s).line = s.line := rfl
@[simp] theorem beginCommand_col : (beginCommand s).col = s.col := rfl
@[simp] theorem beginCommand_oam : (beginCommand s).oam = s.oam := rfl
@[simp] theorem beginCommand_vram : (beginCommand s).vram = s.vram := rfl
@[simp] theorem beginCommand_vregs : (beginCommand s).vregs = s.vregs := rfl
@[simp] theorem beginCommand_itVblank : (beginCommand s).itVblank = s.itVblank := rfl
@[simp] theorem beginCommand_itLcd : (beginCommand s).itLcd = s.itLcd := rfl
@[simp] theorem beginCommand_ioShadow : (beginCommand s).ioShadow = s.ioShadow := rfl
@[simp] theorem beginCommand_ie : (beginCommand s).ie = s.ie := rfl
@[simp] theorem beginCommand_dmaSrc : (beginCommand s).dmaSrc = s.dmaSrc := rfl
@[simp] theorem beginCommand_dmaIdx : (beginCommand s).dmaIdx = s.dmaIdx := rfl
@[simp] theorem beginCommand_wram : (beginCommand s).wram = s.wram := rfl
@[simp] theorem beginCommand_zram : (beginCommand s).zram = s.zram := rfl
@[simp] theorem beginCommand_fault : (beginCommand s).fault = s.fault := rfl
@[simp] theorem beginCommand_cart : (beginCommand s).cart = s.cart := rfl
@[simp] theorem beginCommand_timer : (beginCommand s).timer = s.timer := rfl
@[simp] theorem beginCommand_pad : (beginCommand s).pad = s.pad := rfl
@[simp] theorem beginCommand_flips : (beginCommand s).flips = s.flips := rfl
@[simp] theorem beginCommand_pending : (beginCommand s).pending = s.pending := rfl
@[simp] theorem beginCommand_response : (beginCommand s).response = Response.quiet := rfl
@[simp] theorem beginCommand_draws : (beginCommand s).draws = s.draws := rfl

@[simp] theorem presentCommand_line (cw : CommandWord) : (presentCommand cw s).line = s.line := rfl
@[simp] theorem presentCommand_col (cw : CommandWord) : (presentCommand cw s).col = s.col := rfl
@[simp] theorem presentCommand_oam (cw : CommandWord) : (presentCommand cw s).oam = s.oam := rfl
@[simp] theorem presentCommand_vram (cw : CommandWord) : (presentCommand cw s).vram = s.vram := rfl
@[simp] theorem presentCommand_vregs (cw : CommandWord) : (presentCommand cw s).vregs = s.vregs := rfl
@[simp] theorem presentCommand_itVblank (cw : CommandWord) : (presentCommand cw s).itVblank = s.itVblank := rfl
@[simp] theorem presentCommand_itLcd (cw : CommandWord) : (presentCommand cw s).itLcd = s.itLcd := rfl
@[simp] theorem presentCommand_ioShadow (cw : CommandWord) : (presentCommand cw s).ioShadow = s.ioShadow := rfl
@[simp] theorem presentCommand_ie (cw : CommandWord) : (presentCommand cw s).ie = s.ie := rfl
@[simp] theorem presentCommand_dmaSrc (cw : CommandWord) : (presentCommand cw s).dmaSrc = s.dmaSrc := rfl
@[simp] theorem presentCommand_dmaIdx (cw : CommandWord) : (presentCommand cw s).dmaIdx = s.dmaIdx := rfl
@[simp] theorem presentCommand_wram (cw : CommandWord) : (presentCommand cw s).wram = s.wram := rfl
@[simp] theorem presentCommand_zram (cw : CommandWord) : (presentCommand cw s).zram = s.zram := rfl
@[simp] theorem presentCommand_fault (cw : CommandWord) : (presentCommand cw s).fault = s.fault := rfl
@[simp] theorem presentCommand_cart (cw : CommandWord) : (presentCommand cw s).cart = s.cart := rfl
@[simp] theorem presentCommand_timer (cw : CommandWord) : (presentCommand cw s).timer = s.timer := rfl
@[simp] theorem presentCommand_pad (cw : CommandWord) : (presentCommand cw s).pad = s.pad := rfl
@[simp] theorem presentCommand_flips (cw : CommandWord) : (presentCommand cw s).flips = s.flips := rfl
@[simp] theorem presentCommand_pending (cw : CommandWord) : (presentCommand cw s).pending = cw :: s.pending := rfl
@[simp] theorem presentCommand_response (cw : CommandWord) : (presentCommand cw s).response = s.response := rfl
@[simp] theorem presentCommand_draws (cw : CommandWord) : (presentCommand cw s).draws = s.draws := rfl

@[simp] theorem respondIrq_line (r : Option Source) : (respondIrq r s).line = s.line := rfl
@[simp] theorem respondIrq_col (r : Option Source) : (respondIrq r s).col = s.col := rfl
@[simp] theorem respondIrq_oam (r : Option Source) : (respondIrq r s).oam = s.oam := rfl
@[simp] theorem respondIrq_vram (r : Option Source) : (respondIrq r s).vram = s.vram := rfl
@[simp] theorem respondIrq_vregs (r : Option Source) : (respondIrq r s).vregs = s.vregs := rfl
@[simp] theorem respondIrq_itVblank (r : Option Source) : (respondIrq r s).itVblank = s.itVblank := rfl
@[simp] theorem respondIrq_itLcd (r : Option Source) : (respondIrq r s).itLcd = s.itLcd := rfl
@[simp] theorem respondIrq_ioShadow (r : Option Source) : (respondIrq r s).ioShadow = s.ioShadow := rfl
@[simp] theorem respondIrq_ie (r : Option Source) : (respondIrq r s).ie = s.ie := rfl
@[simp] theorem respondIrq_dmaSrc (r : Option Source) : (respondIrq r s).dmaSrc = s.dmaSrc := rfl
@[simp] theorem respondIrq_dmaIdx (r : Option Source) : (respondIrq r s).dmaIdx = s.dmaIdx := rfl
@[simp] theorem respondIrq_wram (r : Option Source) : (respondIrq r s).wram = s.wram := rfl
@[simp] theorem respondIrq_zram (r : Option Source) : (respondIrq r s).zram = s.zram := rfl
@[simp] theorem respondIrq_fault (r : Option Source) : (respondIrq r s).fault = s.fault := rfl
@[simp] theorem respondIrq_cart (r : Option Source) : (respondIrq r s).cart = s.cart := rfl
@[simp] theorem respondIrq_timer (r : Option Source) : (respondIrq r s).timer = s.timer := rfl
@[simp] theorem respondIrq_pad (r : Option Source) : (respondIrq r s).pad = s.pad := rfl
@[simp] theorem respondIrq_flips (r : Option Source) : (respondIrq r s).flips = s.flips := rfl
@[simp] theorem respondIrq_pending (r : Option Source) : (respondIrq r s).pending = s.pending := rfl
@[simp] theorem respondIrq_response (r : Option Source) : (respondIrq r s).response = { s.response with irq := r } := rfl
@[simp] theorem respondIrq_draws (r : Option Source) : (respondIrq r s).draws = s.draws := rfl

@[simp] theorem setLine_line (n : BitVec 8) : (setLine n s).line = n := rfl
@[simp] theorem setLine_col (n : BitVec 8) : (setLine n s).col = s.col := rfl
@[simp] theorem setLine_oam (n : BitVec 8) : (setLine n s).oam = s.oam := rfl
@[simp] theorem setLine_vram (n : BitVec 8) : (setLine n s).vram = s.vram := rfl
@[simp] theorem setLine_vregs (n : BitVec 8) : (setLine n s).vregs = s.vregs := rfl
@[simp] theorem setLine_itVblank (n : BitVec 8) : (setLine n s).itVblank = s.itVblank := rfl
@[simp] theorem setLine_itLcd (n : BitVec 8) : (setLine n s).itLcd = s.itLcd := rfl
@[simp] theorem setLine_ioShadow (n : BitVec 8) : (setLine n s).ioShadow = s.ioShadow := rfl
@[simp] theorem setLine_ie (n : BitVec 8) : (setLine n s).ie = s.ie := rfl
@[simp] theorem setLine_dmaSrc (n : BitVec 8) : (setLine n s).dmaSrc = s.dmaSrc := rfl
@[simp] theorem setLine_dmaIdx (n : BitVec 8) : (setLine n s).dmaIdx = s.dmaIdx := rfl
@[simp] theorem setLine_wram (n : BitVec 8) : (setLine n s).wram = s.wram := rfl
@[simp] theorem setLine_zram (n : BitVec 8) : (setLine n s).zram = s.zram := rfl
@[simp] theorem setLine_fault (n : BitVec 8) : (setLine n s).fault = s.fault := rfl
@[simp] theorem setLine_cart (n : BitVec 8) : (setLine n s).cart = s.cart := rfl
@[simp] theorem setLine_timer (n : BitVec 8) : (setLine n s).timer = s.timer := rfl
@[simp] theorem setLine_pad (n : BitVec 8) : (setLine n s).pad = s.pad := rfl
@[simp] theorem setLine_flips (n : BitVec 8) : (setLine n s).flips = s.flips := rfl
@[simp] theorem setLine_pending (n : BitVec 8) : (setLine n s).pending = s.pending := rfl
@[simp] theorem setLine_response (n : BitVec 8) : (setLine n s).response = s.response := rfl
@[simp] theorem setLine_draws (n : BitVec 8) : (setLine n s).draws = s.draws := rfl

@[simp] theorem setCol_line (n : BitVec 9) : (setCol n s).line = s.line := rfl
@[simp] theorem setCol_col (n : BitVec 9) : (setCol n s).col = n := rfl
@[simp] theorem setCol_oam (n : BitVec 9) : (setCol n s).oam = s.oam := rfl
@[simp] theorem setCol_vram (n : BitVec 9) : (setCol n s).vram = s.vram := rfl
@[simp] theorem setCol_vregs (n : BitVec 9) : (setCol n s).vregs = s.vregs := rfl
@[simp] theorem setCol_itVblank (n : BitVec 9) : (setCol n s).itVblank = s.itVblank := rfl
@[simp] theorem setCol_itLcd (n : BitVec 9) : (setCol n s).itLcd = s.itLcd := rfl
@[simp] theorem setCol_ioShadow (n : BitVec 9) : (setCol n s).ioShadow = s.ioShadow := rfl
@[simp] theorem setCol_ie (n : BitVec 9) : (setCol n s).ie = s.ie := rfl
@[simp] theorem setCol_dmaSrc (n : BitVec 9) : (setCol n s).dmaSrc = s.dmaSrc := rfl
@[simp] theorem setCol_dmaIdx (n : BitVec 9) : (setCol n s).dmaIdx = s.dmaIdx := rfl
@[simp] theorem setCol_wram (n : BitVec 9) : (setCol n s).wram = s.wram := rfl
@[simp] theorem setCol_zram (n : BitVec 9) : (setCol n s).zram = s.zram := rfl
@[simp] theorem setCol_fault (n : BitVec 9) : (setCol n s).fault = s.fault := rfl
@[simp] theorem setCol_cart (n : BitVec 9) : (setCol n s).cart = s.cart := rfl
@[simp] theorem setCol_timer (n : BitVec 9) : (setCol n s).timer = s.timer := rfl
@[simp] theorem setCol_pad (n : BitVec 9) : (setCol n s).pad = s.pad := rfl
@[simp] theorem setCol_flips (n : BitVec 9) : (setCol n s).flips = s.flips := rfl
@[simp] theorem setCol_pending (n : BitVec 9) : (setCol n s).pending = s.pending := rfl
@[simp] theorem setCol_response (n : BitVec 9) : (setCol n s).response = s.response := rfl
@[simp] theorem setCol_draws (n : BitVec 9) : (setCol n s).draws = s.draws := rfl

@[simp] theorem raiseVblank_line : (raiseVblank s).line = s.line := rfl
@[simp] theorem raiseVblank_col : (raiseVblank s).col = s.col := rfl
@[simp] theorem raiseVblank_oam : (raiseVblank s).oam = s.oam := rfl
@[simp] theorem raiseVblank_vram : (raiseVblank s).vram = s.vram := rfl
@[simp] theorem raiseVblank_vregs : (raiseVblank s).vregs = s.vregs := rfl
@[simp] theorem raiseVblank_itVblank : (raiseVblank s).itVblank = true := rfl
@[simp] theorem raiseVblank_itLcd : (raiseVblank s).itLcd = s.itLcd := rfl
@[simp] theorem raiseVblank_ioShadow : (raiseVblank s).ioShadow = s.ioShadow := rfl
@[simp] theorem raiseVblank_ie : (raiseVblank s).ie = s.ie := rfl
@[simp] theorem raiseVblank_dmaSrc : (raiseVblank s).dmaSrc = s.dmaSrc := rfl
@[simp] theorem raiseVblank_dmaIdx : (raiseVblank s).dmaIdx = s.dmaIdx := rfl
@[simp] theorem raiseVblank_wram : (raiseVblank s).wram = s.wram := rfl
@[simp] theorem raiseVblank_zram : (raiseVblank s).zram = s.zram := rfl
@[simp] theorem raiseVblank_fault : (raiseVblank s).fault = s.fault := rfl
@[simp] theorem raiseVblank_cart : (raiseVblank s).cart = s.cart := rfl
@[simp] theorem raiseVblank_timer : (raiseVblank s).timer = s.timer := rfl
@[simp] theorem raiseVblank_pad : (raiseVblank s).pad = s.pad := rfl
@[simp] theorem raiseVblank_flips : (raiseVblank s).flips = s.flips := rfl
@[simp] theorem raiseVblank_pending : (raiseVblank s).pending = s.pending := rfl
@[simp] theorem raiseVblank_response : (raiseVblank s).response = s.response := rfl
@[simp] theorem raiseVblank_draws : (raiseVblank s).draws = s.draws := rfl

@[simp] theorem raiseLcd_line : (raiseLcd s).line = s.line := rfl
@[simp] theorem raiseLcd_col : (raiseLcd s).col = s.col := rfl
@[simp] theorem raiseLcd_oam : (raiseLcd s).oam = s.oam := rfl
@[simp] theorem raiseLcd_vram : (raiseLcd s).vram = s.vram := rfl
@[simp] theorem raiseLcd_vregs : (raiseLcd s).vregs = s.vregs := rfl
@[simp] theorem raiseLcd_itVblank : (raiseLcd s).itVblank = s.itVblank := rfl
@[simp] theorem raiseLcd_itLcd : (raiseLcd s).itLcd = true := rfl
@[simp] theorem raiseLcd_ioShadow : (raiseLcd s).ioShadow = s.ioShadow := rfl
@[simp] theorem raiseLcd_ie : (raiseLcd s).ie = s.ie := rfl
@[simp] theorem raiseLcd_dmaSrc : (raiseLcd s).dmaSrc = s.dmaSrc := rfl
@[simp] theorem raiseLcd_dmaIdx : (raiseLcd s).dmaIdx = s.dmaIdx := rfl
@[simp] theorem raiseLcd_wram : (raiseLcd s).wram = s.wram := rfl
@[simp] theorem raiseLcd_zram : (raiseLcd s).zram = s.zram := rfl
@[simp] theorem raiseLcd_fault : (raiseLcd s).fault = s.fault := rfl
@[simp] theorem raiseLcd_cart : (raiseLcd s).cart = s.cart := rfl
@[simp] theorem raiseLcd_timer : (raiseLcd s).timer = s.timer := rfl
@[simp] theorem raiseLcd_pad : (raiseLcd s).pad = s.pad := rfl
@[simp] theorem raiseLcd_flips : (raiseLcd s).flips = s.flips := rfl
@[simp] theorem raiseLcd_pending : (raiseLcd s).pending = s.pending := rfl
@[simp] theorem raiseLcd_response : (raiseLcd s).response = s.response := rfl
@[simp] theorem raiseLcd_draws : (raiseLcd s).draws = s.draws := rfl

@[simp] theorem setVram_line (o : Nat) (b : Byte) : (setVram o b s).line = s.line := rfl
@[simp] theorem setVram_col (o : Nat) (b : Byte) : (setVram o b s).col = s.col := rfl
@[simp] theorem setVram_oam (o : Nat) (b : Byte) : (setVram o b s).oam = s.oam := rfl
@[simp] theorem setVram_vram (o : Nat) (b : Byte) : (setVram o b s).vram = Memory.write s.vram o b := rfl
@[simp] theorem setVram_vregs (o : Nat) (b : Byte) : (setVram o b s).vregs = s.vregs := rfl
@[simp] theorem setVram_itVblank (o : Nat) (b : Byte) : (setVram o b s).itVblank = s.itVblank := rfl
@[simp] theorem setVram_itLcd (o : Nat) (b : Byte) : (setVram o b s).itLcd = s.itLcd := rfl
@[simp] theorem setVram_ioShadow (o : Nat) (b : Byte) : (setVram o b s).ioShadow = s.ioShadow := rfl
@[simp] theorem setVram_ie (o : Nat) (b : Byte) : (setVram o b s).ie = s.ie := rfl
@[simp] theorem setVram_dmaSrc (o : Nat) (b : Byte) : (setVram o b s).dmaSrc = s.dmaSrc := rfl
@[simp] theorem setVram_dmaIdx (o : Nat) (b : Byte) : (setVram o b s).dmaIdx = s.dmaIdx := rfl
@[simp] theorem setVram_wram (o : Nat) (b : Byte) : (setVram o b s).wram = s.wram := rfl
@[simp] theorem setVram_zram (o : Nat) (b : Byte) : (setVram o b s).zram = s.zram := rfl
@[simp] theorem setVram_fault (o : Nat) (b : Byte) : (setVram o b s).fault = s.fault := rfl
@[simp] theorem setVram_cart (o : Nat) (b : Byte) : (setVram o b s).cart = s.cart := rfl
@[simp] theorem setVram_timer (o : Nat) (b : Byte) : (setVram o b s).timer = s.timer := rfl
@[simp] theorem setVram_pad (o : Nat) (b : Byte) : (setVram o b s).pad = s.pad := rfl
@[simp] theorem setVram_flips (o : Nat) (b : Byte) : (setVram o b s).flips = s.flips := rfl
@[simp] theorem setVram_pending (o : Nat) (b : Byte) : (setVram o b s).pending = s.pending := rfl
@[simp] theorem setVram_response (o : Nat) (b : Byte) : (setVram o b s).response = s.response := rfl
@[simp] theorem setVram_draws (o : Nat) (b : Byte) : (setVram o b s).draws = s.draws := rfl

@[simp] theorem setWram_line (o : Nat) (b : Byte) : (setWram o b s).line = s.line := rfl
@[simp] theorem setWram_col (o : Nat) (b : Byte) : (setWram o b s).col = s.col := rfl
@[simp] theorem setWram_oam (o : Nat) (b : Byte) : (setWram o b s).oam = s.oam := rfl
@[simp] theorem setWram_vram (o : Nat) (b : Byte) : (setWram o b s).vram = s.vram := rfl
@[simp] theorem setWram_vregs (o : Nat) (b : Byte) : (setWram o b s).vregs = s.vregs := rfl
@[simp] theorem setWram_itVblank (o : Nat) (b : Byte) : (setWram o b s).itVblank = s.itVblank := rfl
@[simp] theorem setWram_itLcd (o : Nat) (b : Byte) : (setWram o b s).itLcd = s.itLcd := rfl
@[simp] theorem setWram_ioShadow (o : Nat) (b : Byte) : (setWram o b s).ioShadow = s.ioShadow := rfl
@[simp] theorem setWram_ie (o : Nat) (b : Byte) : (setWram o b s).ie = s.ie := rfl
@[simp] theorem setWram_dmaSrc (o : Nat) (b : Byte) : (setWram o b s).dmaSrc = s.dmaSrc := rfl
@[simp] theorem setWram_dmaIdx (o : Nat) (b : Byte) : (setWram o b s).dmaIdx = s.dmaIdx := rfl
@[simp] theorem setWram_wram (o : Nat) (b : Byte) : (setWram o b s).wram = Memory.write s.wram o b := rfl
@[simp] theorem setWram_zram (o : Nat) (b : Byte) : (setWram o b s).zram = s.zram := rfl
@[simp] theorem setWram_fault (o : Nat) (b : Byte) : (setWram o b s).fault = s.fault := rfl
@[simp] theorem setWram_cart (o : Nat) (b : Byte) : (setWram o b s).cart = s.cart := rfl
@[simp] theorem setWram_timer (o : Nat) (b : Byte) : (setWram o b s).timer = s.timer := rfl
@[simp] theorem setWram_pad (o : Nat) (b : Byte) : (setWram o b s).pad = s.pad := rfl
@[simp] theorem setWram_flips (o : Nat) (b : Byte) : (setWram o b s).flips = s.flips := rfl
@[simp] theorem setWram_pending (o : Nat) (b : Byte) : (setWram o b s).pending = s.pending := rfl
@[simp] theorem setWram_response (o : Nat) (b : Byte) : (setWram o b s).response = s.response := rfl
@[simp] theorem setWram_draws (o : Nat) (b : Byte) : (setWram o b s).draws = s.draws := rfl

@[simp] theorem setZram_line (o : Nat) (b : Byte) : (setZram o b s).line = s.line := rfl
@[simp] theorem setZram_col (o : Nat) (b : Byte) : (setZram o b s).col = s.col := rfl
@[simp] theorem setZram_oam (o : Nat) (b : Byte) : (setZram o b s).oam = s.oam := rfl
@[simp] theorem setZram_vram (o : Nat) (b : Byte) : (setZram o b s).vram = s.vram := rfl
@[simp] theorem setZram_vregs (o : Nat) (b : Byte) : (setZram o b s).vregs = s.vregs := rfl
@[simp] theorem setZram_itVblank (o : Nat) (b : Byte) : (setZram o b s).itVblank = s.itVblank := rfl
@[simp] theorem setZram_itLcd (o : Nat) (b : Byte) : (setZram o b s).itLcd = s.itLcd := rfl
@[simp] theorem setZram_ioShadow (o : Nat) (b : Byte) : (setZram o b s).ioShadow = s.ioShadow := rfl
@[simp] theorem setZram_ie (o : Nat) (b : Byte) : (setZram o b s).ie = s.ie := rfl
@[simp] theorem setZram_dmaSrc (o : Nat) (b : Byte) : (setZram o b s).dmaSrc = s.dmaSrc := rfl
@[simp] theorem setZram_dmaIdx (o : Nat) (b : Byte) : (setZram o b s).dmaIdx = s.dmaIdx := rfl
@[simp] theorem setZram_wram (o : Nat) (b : Byte) : (setZram o b s).wram = s.wram := rfl
@[simp] theorem setZram_zram (o : Nat) (b : Byte) : (setZram o b s).zram = Memory.write s.zram o b := rfl
@[simp] theorem setZram_fault (o : Nat) (b : Byte) : (setZram o b s).fault = s.fault := rfl
@[simp] theorem setZram_cart (o : Nat) (b : Byte) : (setZram o b s).cart = s.cart := rfl
@[simp] theorem setZram_timer (o : Nat) (b : Byte) : (setZram o b s).timer = s.timer := rfl
@[simp] theorem setZram_pad (o : Nat) (b : Byte) : (setZram o b s).pad = s.pad := rfl
@[simp] theorem setZram_flips (o : Nat) (b : Byte) : (setZram o b s).flips = s.flips := rfl
@[simp] theorem setZram_pending (o : Nat) (b : Byte) : (setZram o b s).pending = s.pending := rfl
@[simp] theorem setZram_response (o : Nat) (b : Byte) : (setZram o b s).response = s.response := rfl
@[simp] theorem setZram_draws (o : Nat) (b : Byte) : (setZram o b s).draws = s.draws := rfl

@[simp] theorem setIoShadow_line (o : Nat) (b : Byte) : (setIoShadow o b s).line = s.line := rfl
@[simp] theorem setIoShadow_col (o : Nat) (b : Byte) : (setIoShadow o b s).col = s.col := rfl
@[simp] theorem setIoShadow_oam (o : Nat) (b : Byte) : (setIoShadow o b s).oam = s.oam := rfl
@[simp] theorem setIoShadow_vram (o : Nat) (b : Byte) : (setIoShadow o b s).vram = s.vram := rfl
@[simp] theorem setIoShadow_vregs (o : Nat) (b : Byte) : (setIoShadow o b s).vregs = s.vregs := rfl
@[simp] theorem setIoShadow_itVblank (o : Nat) (b : Byte) : (setIoShadow o b s).itVblank = s.itVblank := rfl
@[simp] theorem setIoShadow_itLcd (o : Nat) (b : Byte) : (setIoShadow o b s).itLcd = s.itLcd := rfl
@[simp] theorem setIoShadow_ioShadow (o : Nat) (b : Byte) : (setIoShadow o b s).ioShadow = Memory.write s.ioShadow o b := rfl
@[simp] theorem setIoShadow_ie (o : Nat) (b : Byte) : (setIoShadow o b s).ie = s.ie := rfl
@[simp] theorem setIoShadow_dmaSrc (o : Nat) (b : Byte) : (setIoShadow o b s).dmaSrc = s.dmaSrc := rfl
@[simp] theorem setIoShadow_dmaIdx (o : Nat) (b : Byte) : (setIoShadow o b s).dmaIdx = s.dmaIdx := rfl
@[simp] theorem setIoShadow_wram (o : Nat) (b : Byte) : (setIoShadow o b s).wram = s.wram := rfl
@[simp] theorem setIoShadow_zram (o : Nat) (b : Byte) : (setIoShadow o b s).zram = s.zram := rfl
@[simp] theorem setIoShadow_fault (o : Nat) (b : Byte) : (setIoShadow o b s).fault = s.fault := rfl
@[simp] theorem setIoShadow_cart (o : Nat) (b : Byte) : (setIoShadow o b s).cart = s.cart := rfl
@[simp] theorem setIoShadow_timer (o : Nat) (b : Byte) : (setIoShadow o b s).timer = s.timer := rfl
@[simp] theorem setIoShadow_pad (o : Nat) (b : Byte) : (setIoShadow o b s).pad = s.pad := rfl
@[simp] theorem setIoShadow_flips (o : Nat) (b : Byte) : (setIoShadow o b s).flips = s.flips := rfl
@[simp] theorem setIoShadow_pending (o : Nat) (b : Byte) : (setIoShadow o b s).pending = s.pending := rfl
@[simp] theorem setIoShadow_response (o : Nat) (b : Byte) : (setIoShadow o b s).response = s.response := rfl
@[simp] theorem setIoShadow_draws (o : Nat) (b : Byte) : (setIoShadow o b s).draws = s.draws := rfl

@[simp] theorem writeRom_line (a : Addr) (v : Byte) : (writeRom a v s).line = s.line := rfl
@[simp] theorem writeRom_col (a : Addr) (v : Byte) : (writeRom a v s).col = s.col := rfl
@[simp] theorem writeRom_oam (a : Addr) (v : Byte) : (writeRom a v s).oam = s.oam := rfl
@[simp] theorem writeRom_vram (a : Addr) (v : Byte) : (writeRom a v s).vram = s.vram := rfl
@[simp] theorem writeRom_vregs (a : Addr) (v : Byte) : (writeRom a v s).vregs = s.vregs := rfl
@[simp] theorem writeRom_itVblank (a : Addr) (v : Byte) : (writeRom a v s).itVblank = s.itVblank := rfl
@[simp] theorem writeRom_itLcd (a : Addr) (v : Byte) : (writeRom a v s).itLcd = s.itLcd := rfl
@[simp] theorem writeRom_ioShadow (a : Addr) (v : Byte) : (writeRom a v s).ioShadow = s.ioShadow := rfl
@[simp] theorem writeRom_ie (a : Addr) (v : Byte) : (writeRom a v s).ie = s.ie := rfl
@[simp] theorem writeRom_dmaSrc (a : Addr) (v : Byte) : (writeRom a v s).dmaSrc = s.dmaSrc := rfl
@[simp] theorem writeRom_dmaIdx (a : Addr) (v : Byte) : (writeRom a v s).dmaIdx = s.dmaIdx := rfl
@[simp] theorem writeRom_wram (a : Addr) (v : Byte) : (writeRom a v s).wram = s.wram := rfl
@[simp] theorem writeRom_zram (a : Addr) (v : Byte) : (writeRom a v s).zram = s.zram := rfl
@[simp] theorem writeRom_fault (a : Addr) (v : Byte) : (writeRom a v s).fault = s.fault := rfl
@[simp] theorem writeRom_cart (a : Addr) (v : Byte) : (writeRom a v s).cart = Config.cartSetRomByte s.cart (windowOffset 0x0000 a) v := rfl
@[simp] theorem writeRom_timer (a : Addr) (v : Byte) : (writeRom a v s).timer = s.timer := rfl
@[simp] theorem writeRom_pad (a : Addr) (v : Byte) : (writeRom a v s).pad = s.pad := rfl
@[simp] theorem writeRom_flips (a : Addr) (v : Byte) : (writeRom a v s).flips = s.flips := rfl
@[simp] theorem writeRom_pending (a : Addr) (v : Byte) : (writeRom a v s).pending = s.pending := rfl
@[simp] theorem writeRom_response (a : Addr) (v : Byte) : (writeRom a v s).response = s.response := rfl
@[simp] theorem writeRom_draws (a : Addr) (v : Byte) : (writeRom a v s).draws = s.draws := rfl

@[simp] theorem writeCram_line (a : Addr) (v : Byte) : (writeCram a v s).line = s.line := rfl
@[simp] theorem writeCram_col (a : Addr) (v : Byte) : (writeCram a v s).col = s.col := rfl
@[simp] theorem writeCram_oam (a : Addr) (v : Byte) : (writeCram a v s).oam = s.oam := rfl
@[simp] theorem writeCram_vram (a : Addr) (v : Byte) : (writeCram a v s).vram = s.vram := rfl
@[simp] theorem writeCram_vregs (a : Addr) (v : Byte) : (writeCram a v s).vregs = s.vregs := rfl
@[simp] theorem writeCram_itVblank (a : Addr) (v : Byte) : (writeCram a v s).itVblank = s.itVblank := rfl
@[simp] theorem writeCram_itLcd (a : Addr) (v : Byte) : (writeCram a v s).itLcd = s.itLcd := rfl
@[simp] theorem writeCram_ioShadow (a : Addr) (v : Byte) : (writeCram a v s).ioShadow = s.ioShadow := rfl
@[simp] theorem writeCram_ie (a : Addr) (v : Byte) : (writeCram a v s).ie = s.ie := rfl
@[simp] theorem writeCram_dmaSrc (a : Addr) (v : Byte) : (writeCram a v s).dmaSrc = s.dmaSrc := rfl
@[simp] theorem writeCram_dmaIdx (a : Addr) (v : Byte) : (writeCram a v s).dmaIdx = s.dmaIdx := rfl
@[simp] theorem writeCram_wram (a : Addr) (v : Byte) : (writeCram a v s).wram = s.wram := rfl
@[simp] theorem writeCram_zram (a : Addr) (v : Byte) : (writeCram a v s).zram = s.zram := rfl
@[simp] theorem writeCram_fault (a : Addr) (v : Byte) : (writeCram a v s).fault = s.fault := rfl
@[simp] theorem writeCram_cart (a : Addr) (v : Byte) : (writeCram a v s).cart = Config.cartSetRamByte s.cart (windowOffset 0xa000 a) v := rfl
@[simp] theorem writeCram_timer (a : Addr) (v : Byte) : (writeCram a v s).timer = s.timer := rfl
@[simp] theorem writeCram_pad (a : Addr) (v : Byte) : (writeCram a v s).pad = s.pad := rfl
@[simp] theorem writeCram_flips (a : Addr) (v : Byte) : (writeCram a v s).flips = s.flips := rfl
@[simp] theorem writeCram_pending (a : Addr) (v : Byte) : (writeCram a v s).pending = s.pending := rfl
@[simp] theorem writeCram_response (a : Addr) (v : Byte) : (writeCram a v s).response = s.response := rfl
@[simp] theorem writeCram_draws (a : Addr) (v : Byte) : (writeCram a v s).draws = s.draws := rfl

@[simp] theorem writeIe_line (v : Byte) : (writeIe v s).line = s.line := rfl
@[simp] theorem writeIe_col (v : Byte) : (writeIe v s).col = s.col := rfl
@[simp] theorem writeIe_oam (v : Byte) : (writeIe v s).oam = s.oam := rfl
@[simp] theorem writeIe_vram (v : Byte) : (writeIe v s).vram = s.vram := rfl
@[simp] theorem writeIe_vregs (v : Byte) : (writeIe v s).vregs = s.vregs := rfl
@[simp] theorem writeIe_itVblank (v : Byte) : (writeIe v s).itVblank = s.itVblank := rfl
@[simp] theorem writeIe_itLcd (v : Byte) : (writeIe v s).itLcd = s.itLcd := rfl
@[simp] theorem writeIe_ioShadow (v : Byte) : (writeIe v s).ioShadow = s.ioShadow := rfl
@[simp] theorem writeIe_ie (v : Byte) : (writeIe v s).ie = decodeFlags v := rfl
@[simp] theorem writeIe_dmaSrc (v : Byte) : (writeIe v s).dmaSrc = s.dmaSrc := rfl
@[simp] theorem writeIe_dmaIdx (v : Byte) : (writeIe v s).dmaIdx = s.dmaIdx := rfl
@[simp] theorem writeIe_wram (v : Byte) : (writeIe v s).wram = s.wram := rfl
@[simp] theorem writeIe_zram (v : Byte) : (writeIe v s).zram = s.zram := rfl
@[simp] theorem writeIe_fault (v : Byte) : (writeIe v s).fault = s.fault := rfl
@[simp] theorem writeIe_cart (v : Byte) : (writeIe v s).cart = s.cart := rfl
@[simp] theorem writeIe_timer (v : Byte) : (writeIe v s).timer = s.timer := rfl
@[simp] theorem writeIe_pad (v : Byte) : (writeIe v s).pad = s.pad := rfl
@[simp] theorem writeIe_flips (v : Byte) : (writeIe v s).flips = s.flips := rfl
@[simp] theorem writeIe_pending (v : Byte) : (writeIe v s).pending = s.pending := rfl
@[simp] theorem writeIe_response (v : Byte) : (writeIe v s).response = s.response := rfl
@[simp] theorem writeIe_draws (v : Byte) : (writeIe v s).draws = s.draws := rfl

@[simp] theorem padUpdate_line : (padUpdate s).line = s.line := rfl
@[simp] theorem padUpdate_col : (padUpdate s).col = s.col := rfl
@[simp] theorem padUpdate_oam : (padUpdate s).oam = s.oam := rfl
@[simp] theorem padUpdate_vram : (padUpdate s).vram = s.vram := rfl
@[simp] theorem padUpdate_vregs : (padUpdate s).vregs = s.vregs := rfl
@[simp] theorem padUpdate_itVblank : (padUpdate s).itVblank = s.itVblank := rfl
@[simp] theorem padUpdate_itLcd : (padUpdate s).itLcd = s.itLcd := rfl
@[simp] theorem padUpdate_ioShadow : (padUpdate s).ioShadow = s.ioShadow := rfl
@[simp] theorem padUpdate_ie : (padUpdate s).ie = s.ie := rfl
@[simp] theorem padUpdate_dmaSrc : (padUpdate s).dmaSrc = s.dmaSrc := rfl
@[simp] theorem padUpdate_dmaIdx : (padUpdate s).dmaIdx = s.dmaIdx := rfl
@[simp] theorem padUpdate_wram : (padUpdate s).wram = s.wram := rfl
@[simp] theorem padUpdate_zram : (padUpdate s).zram = s.zram := rfl
@[simp] theorem padUpdate_fault : (padUpdate s).fault = s.fault := rfl
@[simp] theorem padUpdate_cart : (padUpdate s).cart = s.cart := rfl
@[simp] theorem padUpdate_timer : (padUpdate s).timer = s.timer := rfl
@[simp] theorem padUpdate_pad : (padUpdate s).pad = Config.freePad s.draws := rfl
@[simp] theorem padUpdate_flips : (padUpdate s).flips = s.flips := rfl
@[simp] theorem padUpdate_pending : (padUpdate s).pending = s.pending := rfl
@[simp] theorem padUpdate_response : (padUpdate s).response = s.response := rfl
@[simp] theorem padUpdate_draws : (padUpdate s).draws = s.draws + 1 := rfl

@[simp] theorem setTimer_line (t : Timer) : (setTimer t s).line = s.line := rfl
@[simp] theorem setTimer_col (t : Timer) : (setTimer t s).col = s.col := rfl
@[simp] theorem setTimer_oam (t : Timer) : (setTimer t s).oam = s.oam := rfl
@[simp] theorem setTimer_vram (t : Timer) : (setTimer t s).vram = s.vram := rfl
@[simp] theorem setTimer_vregs (t : Timer) : (setTimer t s).vregs = s.vregs := rfl
@[simp] theorem setTimer_itVblank (t : Timer) : (setTimer t s).itVblank = s.itVblank := rfl
@[simp] theorem setTimer_itLcd (t : Timer) : (setTimer t s).itLcd = s.itLcd := rfl
@[simp] theorem setTimer_ioShadow (t : Timer) : (setTimer t s).ioShadow = s.ioShadow := rfl
@[simp] theorem setTimer_ie (t : Timer) : (setTimer t s).ie = s.ie := rfl
@[simp] theorem setTimer_dmaSrc (t : Timer) : (setTimer t s).dmaSrc = s.dmaSrc := rfl
@[simp] theorem setTimer_dmaIdx (t : Timer) : (setTimer t s).dmaIdx = s.dmaIdx := rfl
@[simp] theorem setTimer_wram (t : Timer) : (setTimer t s).wram = s.wram := rfl
@[simp] theorem setTimer_zram (t : Timer) : (setTimer t s).zram = s.zram := rfl
@[simp] theorem setTimer_fault (t : Timer) : (setTimer t s).fault = s.fault := rfl
@[simp] theorem setTimer_cart (t : Timer) : (setTimer t s).cart = s.cart := rfl
@[simp] theorem setTimer_timer (t : Timer) : (setTimer t s).timer = t := rfl
@[simp] theorem setTimer_pad (t : Timer) : (setTimer t s).pad = s.pad := rfl
@[simp] theorem setTimer_flips (t : Timer) : (setTimer t s).flips = s.flips := rfl
@[simp] theorem setTimer_pending (t : Timer) : (setTimer t s).pending = s.pending := rfl
@[simp] theorem setTimer_response (t : Timer) : (setTimer t s).response = s.response := rfl
@[simp] theorem setTimer_draws (t : Timer) : (setTimer t s).draws = s.draws := rfl

@[simp] theorem timerTick_line : (timerTick s).line = s.line := rfl
@[simp] theorem timerTick_col : (timerTick s).col = s.col := rfl
@[simp] theorem timerTick_oam : (timerTick s).oam = s.oam := rfl
@[simp] theorem timerTick_vram : (timerTick s).vram = s.vram := rfl
@[simp] theorem timerTick_vregs : (timerTick s).vregs = s.vregs := rfl
@[simp] theorem timerTick_itVblank : (timerTick s).itVblank = s.itVblank := rfl
@[simp] theorem timerTick_itLcd : (timerTick s).itLcd = s.itLcd := rfl
@[simp] theorem timerTick_ioShadow : (timerTick s).ioShadow = s.ioShadow := rfl
@[simp] theorem timerTick_ie : (timerTick s).ie = s.ie := rfl
@[simp] theorem timerTick_dmaSrc : (timerTick s).dmaSrc = s.dmaSrc := rfl
@[simp] theorem timerTick_dmaIdx : (timerTick s).dmaIdx = s.dmaIdx := rfl
@[simp] theorem timerTick_wram : (timerTick s).wram = s.wram := rfl
@[simp] theorem timerTick_zram : (timerTick s).zram = s.zram := rfl
@[simp] theorem timerTick_fault : (timerTick s).fault = s.fault := rfl
@[simp] theorem timerTick_cart : (timerTick s).cart = s.cart := rfl
@[simp] theorem timerTick_timer : (timerTick s).timer = Config.timerStep s.timer := rfl
@[simp] theorem timerTick_pad : (timerTick s).pad = s.pad := rfl
@[simp] theorem timerTick_flips : (timerTick s).flips = s.flips := rfl
@[simp] theorem timerTick_pending : (timerTick s).pending = s.pending := rfl
@[simp] theorem timerTick_response : (timerTick s).response = s.response := rfl
@[simp] theorem timerTick_draws : (timerTick s).draws = s.draws := rfl

@[simp] theorem advanceDma_line : (advanceDma s).line = s.line := rfl
@[simp] theorem advanceDma_col : (advanceDma s).col = s.col := rfl
@[simp] theorem advanceDma_oam : (advanceDma s).oam = s.oam := rfl
@[simp] theorem advanceDma_vram : (advanceDma s).vram = s.vram := rfl
@[simp] theorem advanceDma_vregs : (advanceDma s).vregs = s.vregs := rfl
@[simp] theorem advanceDma_itVblank : (advanceDma s).itVblank = s.itVblank := rfl
@[simp] theorem advanceDma_itLcd : (advanceDma s).itLcd = s.itLcd := rfl
@[simp] theorem advanceDma_ioShadow : (advanceDma s).ioShadow = s.ioShadow := rfl
@[simp] theorem advanceDma_ie : (advanceDma s).ie = s.ie := rfl
@[simp] theorem advanceDma_dmaSrc : (advanceDma s).dmaSrc = s.dmaSrc + 1 := rfl
@[simp] theorem advanceDma_dmaIdx : (advanceDma s).dmaIdx = s.dmaIdx + 1 := rfl
@[simp] theorem advanceDma_wram : (advanceDma s).wram = s.wram := rfl
@[simp] theorem advanceDma_zram : (advanceDma s).zram = s.zram := rfl
@[simp] theorem advanceDma_fault : (advanceDma s).fault = s.fault := rfl
@[simp] theorem advanceDma_cart : (advanceDma s).cart = s.cart := rfl
@[simp] theorem advanceDma_timer : (advanceDma s).timer = s.timer := rfl
@[simp] theorem advanceDma_pad : (advanceDma s).pad = s.pad := rfl
@[simp] theorem advanceDma_flips : (advanceDma s).flips = s.flips := rfl
@[simp] theorem advanceDma_pending : (advanceDma s).pending = s.pending := rfl
@[simp] theorem advanceDma_response : (advanceDma s).response = s.response := rfl
@[simp] theorem advanceDma_draws : (advanceDma s).draws = s.draws := rfl

@[simp] theorem setOamByte_line (i : Nat) (b : Byte) : (setOamByte i b s).line = s.line := by unfold setOamByte; split <;> rfl
@[simp] theorem setOamByte_col (i : Nat) (b : Byte) : (setOamByte i b s).col = s.col := by unfold setOamByte; split <;> rfl
@[simp] theorem setOamByte_vram (i : Nat) (b : Byte) : (setOamByte i b s).vram = s.vram := by unfold setOamByte; split <;> rfl
@[simp] theorem setOamByte_vregs (i : Nat) (b : Byte) : (setOamByte i b s).vregs = s.vregs := by unfold setOamByte; split <;> rfl
@[simp] theorem setOamByte_itVblank (i : Nat) (b : Byte) : (setOamByte i b s).itVblank = s.itVblank := by unfold setOamByte; split <;> rfl
@[simp] theorem setOamByte_itLcd (i : Nat) (b : Byte) : (setOamByte i b s).itLcd = s.itLcd := by unfold setOamByte; split <;> rfl
@[simp] theorem setOamByte_ioShadow (i : Nat) (b : Byte) : (setOamByte i b s).ioShadow = s.ioShadow := by unfold setOamByte; split <;> rfl
@[simp] theorem setOamByte_ie (i : Nat) (b : Byte) : (setOamByte i b s).ie = s.ie := by unfold setOamByte; split <;> rfl
@[simp] theorem setOamByte_dmaSrc (i : Nat) (b : Byte) : (setOamByte i b s).dmaSrc = s.dmaSrc := by unfold setOamByte; split <;> rfl
@[simp] theorem setOamByte_dmaIdx (i : Nat) (b : Byte) : (setOamByte i b s).dmaIdx = s.dmaIdx := by unfold setOamByte; split <;> rfl
@[simp] theorem setOamByte_wram (i : Nat) (b : Byte) : (setOamByte i b s).wram = s.wram := by unfold setOamByte; split <;> rfl
@[simp] theorem setOamByte_zram (i : Nat) (b : Byte) : (setOamByte i b s).zram = s.zram := by unfold setOamByte; split <;> rfl
@[simp] theorem setOamByte_fault (i : Nat) (b : Byte) : (setOamByte i b s).fault = s.fault := by unfold setOamByte; split <;> rfl
@[simp] theorem setOamByte_cart (i : Nat) (b : Byte) : (setOamByte i b s).cart = s.cart := by unfold setOamByte; split <;> rfl
@[simp] theorem setOamByte_timer (i : Nat) (b : Byte) : (setOamByte i b s).timer = s.timer := by unfold setOamByte; split <;> rfl
@[simp] theorem setOamByte_pad (i : Nat) (b : Byte) : (setOamByte i b s).pad = s.pad := by unfold setOamByte; split <;> rfl
@[simp] theorem setOamByte_flips (i : Nat) (b : Byte) : (setOamByte i b s).flips = s.flips := by unfold setOamByte; split <;> rfl
@[simp] theorem setOamByte_pending (i : Nat) (b : Byte) : (setOamByte i b s).pending = s.pending := by unfold setOamByte; split <;> rfl
@[simp] theorem setOamByte_response (i : Nat) (b : Byte) : (setOamByte i b s).response = s.response := by unfold setOamByte; split <;> rfl
@[simp] theorem setOamByte_draws (i : Nat) (b : Byte) : (setOamByte i b s).draws = s.draws := by unfold setOamByte; split <;> rfl

@[simp] theorem vregSet_line (r : VReg) (v : Byte) : (vregSet r v s).line = s.line := by cases r <;> rfl
@[simp] theorem vregSet_col (r : VReg) (v : Byte) : (vregSet r v s).col = s.col := by cases r <;> rfl
@[simp] theorem vregSet_oam (r : VReg) (v : Byte) : (vregSet r v s).oam = s.oam := by cases r <;> rfl
@[simp] theorem vregSet_vram (r : VReg) (v : Byte) : (vregSet r v s).vram = s.vram := by cases r <;> rfl
@[simp] theorem vregSet_itVblank (r : VReg) (v : Byte) : (vregSet r v s).itVblank = s.itVblank := by cases r <;> rfl
@[simp] theorem vregSet_itLcd (r : VReg) (v : Byte) : (vregSet r v s).itLcd = s.itLcd := by cases r <;> rfl
@[simp] theorem vregSet_ioShadow (r : VReg) (v : Byte) : (vregSet r v s).ioShadow = s.ioShadow := by cases r <;> rfl
@[simp] theorem vregSet_ie (r : VReg) (v : Byte) : (vregSet r v s).ie = s.ie := by cases r <;> rfl
@[simp] theorem vregSet_dmaSrc (r : VReg) (v : Byte) : (vregSet r v s).dmaSrc = s.dmaSrc := by cases r <;> rfl
@[simp] theorem vregSet_dmaIdx (r : VReg) (v : Byte) : (vregSet r v s).dmaIdx = s.dmaIdx := by cases r <;> rfl
@[simp] theorem vregSet_wram (r : VReg) (v : Byte) : (vregSet r v s).wram = s.wram := by cases r <;> rfl
@[simp] theorem vregSet_zram (r : VReg) (v : Byte) : (vregSet r v s).zram = s.zram := by cases r <;> rfl
@[simp] theorem vregSet_fault (r : VReg) (v : Byte) : (vregSet r v s).fault = s.fault := by cases r <;> rfl
@[simp] theorem vregSet_cart (r : VReg) (v : Byte) : (vregSet r v s).cart = s.cart := by cases r <;> rfl
@[simp] theorem vregSet_timer (r : VReg) (v : Byte) : (vregSet r v s).timer = s.timer := by cases r <;> rfl
@[simp] theorem vregSet_pad (r : VReg) (v : Byte) : (vregSet r v s).pad = s.pad := by cases r <;> rfl
@[simp] theorem vregSet_flips (r : VReg) (v : Byte) : (vregSet r v s).flips = s.flips := by cases r <;> rfl
@[simp] theorem vregSet_pending (r : VReg) (v : Byte) : (vregSet r v s).pending = s.pending := by cases r <;> rfl
@[simp] theorem vregSet_response (r : VReg) (v : Byte) : (vregSet r v s).response = s.response := by cases r <;> rfl
@[simp] theorem vregSet_draws (r : VReg) (v : Byte) : (vregSet r v s).draws = s.draws := by cases r <;> rfl

@[simp] theorem ackLatch_line (src : Source) : (ackLatch src s).line = s.line := by cases src <;> rfl
@[simp] theorem ackLatch_col (src : Source) : (ackLatch src s).col = s.col := by cases src <;> rfl
@[simp] theorem ackLatch_oam (src : Source) : (ackLatch src s).oam = s.oam := by cases src <;> rfl
@[simp] theorem ackLatch_vram (src : Source) : (ackLatch src s).vram = s.vram := by cases src <;> rfl
@[simp] theorem ackLatch_vregs (src : Source) : (ackLatch src s).vregs = s.vregs := by cases src <;> rfl
@[simp] theorem ackLatch_ioShadow (src : Source) : (ackLatch src s).ioShadow = s.ioShadow := by cases src <;> rfl
@[simp] theorem ackLatch_ie (src : Source) : (ackLatch src s).ie = s.ie := by cases src <;> rfl
@[simp] theorem ackLatch_dmaSrc (src : Source) : (ackLatch src s).dmaSrc = s.dmaSrc := by cases src <;> rfl
@[simp] theorem ackLatch_dmaIdx (src : Source) : (ackLatch src s).dmaIdx = s.dmaIdx := by cases src <;> rfl
@[simp] theorem ackLatch_wram (src : Source) : (ackLatch src s).wram = s.wram := by cases src <;> rfl
@[simp] theorem ackLatch_zram (src : Source) : (ackLatch src s).zram = s.zram := by cases src <;> rfl
@[simp] theorem ackLatch_fault (src : Source) : (ackLatch src s).fault = s.fault := by cases src <;> rfl
@[simp] theorem ackLatch_cart (src : Source) : (ackLatch src s).cart = s.cart := by cases src <;> rfl
@[simp] theorem ackLatch_pad (src : Source) : (ackLatch src s).pad = s.pad := by cases src <;> rfl
@[simp] theorem ackLatch_flips (src : Source) : (ackLatch src s).flips = s.flips := by cases src <;> rfl
@[simp] theorem ackLatch_pending (src : Source) : (ackLatch src s).pending = s.pending := by cases src <;> rfl
@[simp] theorem ackLatch_response (src : Source) : (ackLatch src s).response = s.response := by cases src <;> rfl
@[simp] theorem ackLatch_draws (src : Source) : (ackLatch src s).draws = s.draws := by cases src <;> rfl

@[simp] theorem forceLatch_line (src : Source) (b : Bool) : (forceLatch src b s).line = s.line := by cases src <;> rfl
@[simp] theorem forceLatch_col (src : Source) (b : Bool) : (forceLatch src b s).col = s.col := by cases src <;> rfl
@[simp] theorem forceLatch_oam (src : Source) (b : Bool) : (forceLatch src b s).oam = s.oam := by cases src <;> rfl
@[simp] theorem forceLatch_vram (src : Source) (b : Bool) : (forceLatch src b s).vram = s.vram := by cases src <;> rfl
@[simp] theorem forceLatch_vregs (src : Source) (b : Bool) : (forceLatch src b s).vregs = s.vregs := by cases src <;> rfl
@[simp] theorem forceLatch_ioShadow (src : Source) (b : Bool) : (forceLatch src b s).ioShadow = s.ioShadow := by cases src <;> rfl
@[simp] theorem forceLatch_ie (src : Source) (b : Bool) : (forceLatch src b s).ie = s.ie := by cases src <;> rfl
@[simp] theorem forceLatch_dmaSrc (src : Source) (b : Bool) : (forceLatch src b s).dmaSrc = s.dmaSrc := by cases src <;> rfl
@[simp] theorem forceLatch_dmaIdx (src : Source) (b : Bool) : (forceLatch src b s).dmaIdx = s.dmaIdx := by cases src <;> rfl
@[simp] theorem forceLatch_wram (src : Source) (b : Bool) : (forceLatch src b s).wram = s.wram := by cases src <;> rfl
@[simp] theorem forceLatch_zram (src : Source) (b : Bool) : (forceLatch src b s).zram = s.zram := by cases src <;> rfl
@[simp] theorem forceLatch_fault (src : Source) (b : Bool) : (forceLatch src b s).fault = s.fault := by cases src <;> rfl
@[simp] theorem forceLatch_cart (src : Source) (b : Bool) : (forceLatch src b s).cart = s.cart := by cases src <;> rfl
@[simp] theorem forceLatch_pad (src : Source) (b : Bool) : (forceLatch src b s).pad = s.pad := by cases src <;> rfl
@[simp] theorem forceLatch_flips (src : Source) (b : Bool) : (forceLatch src b s).flips = s.flips := by cases src <;> rfl
@[simp] theorem forceLatch_pending (src : Source) (b : Bool) : (forceLatch src b s).pending = s.pending := by cases src <;> rfl
@[simp] theorem forceLatch_response (src : Source) (b : Bool) : (forceLatch src b s).response = s.response := by cases src <;> rfl
@[simp] theorem forceLatch_draws (src : Source) (b : Bool) : (forceLatch src b s).draws = s.draws := by cases src <;> rfl

@[simp] theorem ackSelected_line (r : Option Source) : (ackSelected r s).line = s.line := by cases r <;> simp [ackSelected]
@[simp] theorem ackSelected_col (r : Option Source) : (ackSelected r s).col = s.col := by cases r <;> simp [ackSelected]
@[simp] theorem ackSelected_oam (r : Option Source) : (ackSelected r s).oam = s.oam := by cases r <;> simp [ackSelected]
@[simp] theorem ackSelected_vram (r : Option Source) : (ackSelected r s).vram = s.vram := by cases r <;> simp [ackSelected]
@[simp] theorem ackSelected_vregs (r : Option Source) : (ackSelected r s).vregs = s.vregs := by cases r <;> simp [ackSelected]
@[simp] theorem ackSelected_ioShadow (r : Option Source) : (ackSelected r s).ioShadow = s.ioShadow := by cases r <;> simp [ackSelected]
@[simp] theorem ackSelected_ie (r : Option Source) : (ackSelected r s).ie = s.ie := by cases r <;> simp [ackSelected]
@[simp] theorem ackSelected_dmaSrc (r : Option Source) : (ackSelected r s).dmaSrc = s.dmaSrc := by cases r <;> simp [ackSelected]
@[simp] theorem ackSelected_dmaIdx (r : Option Source) : (ackSelected r s).dmaIdx = s.dmaIdx := by cases r <;> simp [ackSelected]
@[simp] theorem ackSelected_wram (r : Option Source) : (ackSelected r s).wram = s.wram := by cases r <;> simp [ackSelected]
@[simp] theorem ackSelected_zram (r : Option Source) : (ackSelected r s).zram = s.zram := by cases r <;> simp [ackSelected]
@[simp] theorem ackSelected_fault (r : Option Source) : (ackSelected r s).fault = s.fault := by cases r <;> simp [ackSelected]
@[simp] theorem ackSelected_cart (r : Option Source) : (ackSelected r s).cart = s.cart := by cases r <;> simp [ackSelected]
@[simp] theorem ackSelected_pad (r : Option Source) : (ackSelected r s).pad = s.pad := by cases r <;> simp [ackSelected]
@[simp] theorem ackSelected_flips (r : Option Source) : (ackSelected r s).flips = s.flips := by cases r <;> simp [ackSelected]
@[simp] theorem ackSelected_pending (r : Option Source) : (ackSelected r s).pending = s.pending := by cases r <;> simp [ackSelected]
@[simp] theorem ackSelected_response (r : Option Source) : (ackSelected r s).response = s.response := by cases r <;> simp [ackSelected]
@[simp] theorem ackSelected_draws (r : Option Source) : (ackSelected r s).draws = s.draws := by cases r <;> simp [ackSelected]

@[simp] theorem enterLine_line : (enterLine s).line = s.line := by unfold enterLine; split <;> rfl
@[simp] theorem enterLine_col : (enterLine s).col = s.col := by unfold enterLine; split <;> rfl
@[simp] theorem enterLine_oam : (enterLine s).oam = s.oam := by unfold enterLine; split <;> rfl
@[simp] theorem enterLine_vram : (enterLine s).vram = s.vram := by unfold enterLine; split <;> rfl
@[simp] theorem enterLine_vregs : (enterLine s).vregs = s.vregs := by unfold enterLine; split <;> rfl
@[simp] theorem enterLine_itLcd : (enterLine s).itLcd = s.itLcd := by unfold enterLine; split <;> rfl
@[simp] theorem enterLine_ioShadow : (enterLine s).ioShadow = s.ioShadow := by unfold enterLine; split <;> rfl
@[simp] theorem enterLine_ie : (enterLine s).ie = s.ie := by unfold enterLine; split <;> rfl
@[simp] theorem enterLine_dmaSrc : (enterLine s).dmaSrc = s.dmaSrc := by unfold enterLine; split <;> rfl
@[simp] theorem enterLine_dmaIdx : (enterLine s).dmaIdx = s.dmaIdx := by unfold enterLine; split <;> rfl
@[simp] theorem enterLine_wram : (enterLine s).wram = s.wram := by unfold enterLine; split <;> rfl
@[simp] theorem enterLine_zram : (enterLine s).zram = s.zram := by unfold enterLine; split <;> rfl
@[simp] theorem enterLine_fault : (enterLine s).fault = s.fault := by unfold enterLine; split <;> rfl
@[simp] theorem enterLine_cart : (enterLine s).cart = s.cart := by unfold enterLine; split <;> rfl
@[simp] theorem enterLine_timer : (enterLine s).timer = s.timer := by unfold enterLine; split <;> rfl
@[simp] theorem enterLine_pad : (enterLine s).pad = s.pad := by unfold enterLine; split <;> rfl
@[simp] theorem enterLine_pending : (enterLine s).pending = s.pending := by unfold enterLine; split <;> rfl
@[simp] theorem enterLine_draws : (enterLine s).draws = s.draws := by unfold enterLine; split <;> rfl

@[simp] theorem advanceLine_col : (advanceLine s).col = s.col := by unfold advanceLine; split <;> simp
@[simp] theorem advanceLine_oam : (advanceLine s).oam = s.oam := by unfold advanceLine; split <;> simp
@[simp] theorem advanceLine_vram : (advanceLine s).vram = s.vram := by unfold advanceLine; split <;> simp
@[simp] theorem advanceLine_vregs : (advanceLine s).vregs = s.vregs := by unfold advanceLine; split <;> simp
@[simp] theorem advanceLine_itLcd : (advanceLine s).itLcd = s.itLcd := by unfold advanceLine; split <;> simp
@[simp] theorem advanceLine_ioShadow : (advanceLine s).ioShadow = s.ioShadow := by unfold advanceLine; split <;> simp
@[simp] theorem advanceLine_ie : (advanceLine s).ie = s.ie := by unfold advanceLine; split <;> simp
@[simp] theorem advanceLine_dmaSrc : (advanceLine s).dmaSrc = s.dmaSrc := by unfold advanceLine; split <;> simp
@[simp] theorem advanceLine_dmaIdx : (advanceLine s).dmaIdx = s.dmaIdx := by unfold advanceLine; split <;> simp
@[simp] theorem advanceLine_wram : (advanceLine s).wram = s.wram := by unfold advanceLine; split <;> simp
@[simp] theorem advanceLine_zram : (advanceLine s).zram = s.zram := by unfold advanceLine; split <;> simp
@[simp] theorem advanceLine_fault : (advanceLine s).fault = s.fault := by unfold advanceLine; split <;> simp
@[simp] theorem advanceLine_cart : (advanceLine s).cart = s.cart := by unfold advanceLine; split <;> simp
@[simp] theorem advanceLine_timer : (advanceLine s).timer = s.timer := by unfold advanceLine; split <;> simp
@[simp] theorem advanceLine_pad : (advanceLine s).pad = s.pad := by unfold advanceLine; split <;> simp
@[simp] theorem advanceLine_pending : (advanceLine s).pending = s.pending := by unfold advanceLine; split <;> simp
@[simp] theorem advanceLine_draws : (advanceLine s).draws = s.draws := by unfold advanceLine; split <;> simp

@[simp] theorem compareLine_line : (compareLine s).line = s.line := by unfold compareLine; split <;> rfl
@[simp] theorem compareLine_col : (compareLine s).col = s.col := by unfold compareLine; split <;> rfl
@[simp] theorem compareLine_oam : (compareLine s).oam = s.oam := by unfold compareLine; split <;> rfl
@[simp] theorem compareLine_vram : (compareLine s).vram = s.vram := by unfold compareLine; split <;> rfl
@[simp] theorem compareLine_vregs : (compareLine s).vregs = s.vregs := by unfold compareLine; split <;> rfl
@[simp] theorem compareLine_itVblank : (compareLine s).itVblank = s.itVblank := by unfold compareLine; split <;> rfl
@[simp] theorem compareLine_ioShadow : (compareLine s).ioShadow = s.ioShadow := by unfold compareLine; split <;> rfl
@[simp] theorem compareLine_ie : (compareLine s).ie = s.ie := by unfold compareLine; split <;> rfl
@[simp] theorem compareLine_dmaSrc : (compareLine s).dmaSrc = s.dmaSrc := by unfold compareLine; split <;> rfl
@[simp] theorem compareLine_dmaIdx : (compareLine s).dmaIdx = s.dmaIdx := by unfold compareLine; split <;> rfl
@[simp] theorem compareLine_wram : (compareLine s).wram = s.wram := by unfold compareLine; split <;> rfl
@[simp] theorem compareLine_zram : (compareLine s).zram = s.zram := by unfold compareLine; split <;> rfl
@[simp] theorem compareLine_fault : (compareLine s).fault = s.fault := by unfold compareLine; split <;> rfl
@[simp] theorem compareLine_cart : (compareLine s).cart = s.cart := by unfold compareLine; split <;> rfl
@[simp] theorem compareLine_timer : (compareLine s).timer = s.timer := by unfold compareLine; split <;> rfl
@[simp] theorem compareLine_pad : (compareLine s).pad = s.pad := by unfold compareLine; split <;> rfl
@[simp] theorem compareLine_flips : (compareLine s).flips = s.flips := by unfold compareLine; split <;> rfl
@[simp] theorem compareLine_pending : (compareLine s).pending = s.pending := by unfold compareLine; split <;> rfl
@[simp] theorem compareLine_response : (compareLine s).response = s.response := by unfold compareLine; split <;> rfl
@[simp] theorem compareLine_draws : (compareLine s).draws = s.draws := by unfold compareLine; split <;> rfl

@[simp] theorem videoTick_oam : (videoTick s).oam = s.oam := by unfold videoTick; split <;> simp
@[simp] theorem videoTick_vram : (videoTick s).vram = s.vram := by unfold videoTick; split <;> simp
@[simp] theorem videoTick_vregs : (videoTick s).vregs = s.vregs := by unfold videoTick; split <;> simp
@[simp] theorem videoTick_ioShadow : (videoTick s).ioShadow = s.ioShadow := by unfold videoTick; split <;> simp
@[simp] theorem videoTick_ie : (videoTick s).ie = s.ie := by unfold videoTick; split <;> simp
@[simp] theorem videoTick_dmaSrc : (videoTick s).dmaSrc = s.dmaSrc := by unfold videoTick; split <;> simp
@[simp] theorem videoTick_dmaIdx : (videoTick s).dmaIdx = s.dmaIdx := by unfold videoTick; split <;> simp
@[simp] theorem videoTick_wram : (videoTick s).wram = s.wram := by unfold videoTick; split <;> simp
@[simp] theorem videoTick_zram : (videoTick s).zram = s.zram := by unfold videoTick; split <;> simp
@[simp] theorem videoTick_fault : (videoTick s).fault = s.fault := by unfold videoTick; split <;> simp
@[simp] theorem videoTick_cart : (videoTick s).cart = s.cart := by unfold videoTick; split <;> simp
@[simp] theorem videoTick_timer : (videoTick s).timer = s.timer := by unfold videoTick; split <;> simp
@[simp] theorem videoTick_pad : (videoTick s).pad = s.pad := by unfold videoTick; split <;> simp
@[simp] theorem videoTick_pending : (videoTick s).pending = s.pending := by unfold videoTick; split <;> simp
@[simp] theorem videoTick_draws : (videoTick s).draws = s.draws := by unfold videoTick; split <;> simp

end Sys2Proof.Machine
end

