-- ==== Sys2Proof/Laws/Ops.lean ====
section
/-! SUPPORT. For each shared operation, once, everything it can do. -/

namespace Sys2Proof.Machine

/-! ### Commands -/

theorem runCommand_of_fault {body : State → Run Byte} {s : State} (h : s.fault = true) :
    runCommand body s = .next (refuse s) := by simp [runCommand, h]

theorem runCommand_of_ok {body : State → Run Byte} {s t : State} {b : Byte} (h : s.fault = false)
    (hb : body (beginCommand s) = .ok b t) :
    runCommand body s = .next { t with response := { t.response with rdata := b } } := by
  simp [runCommand, h, hb, complete]

theorem runCommand_of_stopped {body : State → Run Byte} {s t : State} (h : s.fault = false)
    (hb : body (beginCommand s) = .stopped t) : runCommand body s = .next t := by
  simp [runCommand, h, hb, complete]

/-- A command always answers a next state: refused, completed, or ended by a fault. -/
theorem runCommand_cases (body : State → Run Byte) (s : State) :
    (s.fault = true ∧ runCommand body s = .next (refuse s)) ∨
      (s.fault = false ∧ ∃ b t, body (beginCommand s) = .ok b t ∧
        runCommand body s = .next { t with response := { t.response with rdata := b } }) ∨
      (s.fault = false ∧ ∃ t, body (beginCommand s) = .stopped t ∧ runCommand body s = .next t) := by
  cases hf : s.fault
  · cases hb : body (beginCommand s) with
    | ok b t => exact .inr (.inl ⟨rfl, b, t, rfl, runCommand_of_ok hf hb⟩)
    | stopped t => exact .inr (.inr ⟨rfl, t, rfl, runCommand_of_stopped hf hb⟩)
  · exact .inl ⟨rfl, runCommand_of_fault hf⟩

theorem runFetch_of_ok {read : State → Run Byte} {s t : State} {b : Byte} (h : s.fault = false)
    (hb : read (beginCommand s) = .ok b t) :
    runFetch read s = .next { t with response := { t.response with rdata := b } } := runCommand_of_ok h hb

theorem runEffect_of_ok {effect : State → Run Unit} {s t : State} (h : s.fault = false)
    (hb : effect (beginCommand s) = .ok () t) :
    runEffect effect s = .next { t with response := { t.response with rdata := 0 } } := by
  simp [runEffect, runCommand, h, hb, Run.bind, complete]

theorem runEffect_of_stopped {effect : State → Run Unit} {s t : State} (h : s.fault = false)
    (hb : effect (beginCommand s) = .stopped t) : runEffect effect s = .next t := by
  simp [runEffect, runCommand, h, hb, Run.bind, complete]

theorem runFetch_eq (read : State → Run Byte) (s : State) : runFetch read s = runCommand read s := rfl

theorem runEffect_eq (effect : State → Run Unit) (s : State) :
    runEffect effect s = runCommand (fun u => (effect u).bind fun _ t => .ok 0 t) s := rfl

/-- What a command without a byte can do. -/
theorem runEffect_cases (effect : State → Run Unit) (s : State) :
    (s.fault = true ∧ runEffect effect s = .next (refuse s)) ∨
      (s.fault = false ∧ ∃ t, effect (beginCommand s) = .ok () t ∧
        runEffect effect s = .next { t with response := { t.response with rdata := 0 } }) ∨
      (s.fault = false ∧ ∃ t, effect (beginCommand s) = .stopped t ∧ runEffect effect s = .next t) := by
  cases hf : s.fault
  · cases hb : effect (beginCommand s) with
    | ok b t => exact .inr (.inl ⟨rfl, t, rfl, by simp [runEffect, runCommand, hf, hb, Run.bind, complete]⟩)
    | stopped t => exact .inr (.inr ⟨rfl, t, rfl, by simp [runEffect, runCommand, hf, hb, Run.bind, complete]⟩)
  · exact .inl ⟨rfl, by simp [runEffect, runCommand, hf]⟩

theorem runStore_of_fault {write : State → State} {s : State} (h : s.fault = true) :
    runStore write s = .next (refuse s) := by simp [runStore, runEffect, runCommand, h]

theorem runStore_of_ok {write : State → State} {s : State} (h : s.fault = false) :
    runStore write s =
      .next { write (beginCommand s) with response := { (write (beginCommand s)).response with rdata := 0 } } := by
  simp [runStore, runEffect, runCommand, h, Run.bind, complete]

theorem inWindow_of_covers {t : Target} {a : Addr} (h : t.covers a = true)
    (r : Host.Outcome State Fault Refusal) : inWindow t a r = r := by simp [inWindow, h]

theorem inWindow_of_not_covers {t : Target} {a : Addr} (h : t.covers a = false)
    (r : Host.Outcome State Fault Refusal) : inWindow t a r = .fault .operandOutsideWindow := by simp [inWindow, h]

theorem inWindow_next {t : Target} {a : Addr} {r : Host.Outcome State Fault Refusal} {s : State}
    (h : inWindow t a r = .next s) : t.covers a = true ∧ r = .next s := by
  unfold inWindow at h
  split at h
  · exact ⟨‹_›, h⟩
  · cases h

/-! ### The display mode and the gates -/

theorem oamOpen_iff (s : State) : oamOpen s = true ↔ mode s = .hblank ∨ mode s = .vblank := by
  unfold oamOpen
  cases mode s <;> simp

theorem oamOpen_eq_false_iff (s : State) : oamOpen s = false ↔ mode s = .prelude ∨ mode s = .active := by
  unfold oamOpen
  cases mode s <;> simp

/-- The mode depends on the position alone (R129). -/
theorem mode_congr {s t : State} (hl : t.line = s.line) (hc : t.col = s.col) : mode t = mode s := by
  simp [mode, hl, hc]

theorem oamOpen_congr {s t : State} (hl : t.line = s.line) (hc : t.col = s.col) : oamOpen t = oamOpen s := by
  simp [oamOpen, mode_congr hl hc]

theorem vramGated_eq (s : State) : vramGated s = decide (mode s = .active) := rfl

theorem oamGet_of_open {s : State} (h : oamOpen s = true) (a : Addr) : oamGet a s = .ok (oamByte s (oamIndex a)) s := by
  simp [oamGet, h]

theorem oamGet_of_locked {s : State} (h : oamOpen s = false) (a : Addr) :
    oamGet a s = .stopped (raiseViolation .get a s) := by
  simp [oamGet, h, oamPolicy]

theorem oamSet_of_open {s : State} (h : oamOpen s = true) (a : Addr) (v : Byte) :
    oamSet a v s = .ok () (setOamByte (oamIndex a) v s) := by
  simp [oamSet, h]

theorem oamSet_of_locked {s : State} (h : oamOpen s = false) (a : Addr) (v : Byte) :
    oamSet a v s = .stopped (raiseViolation .set a s) := by
  simp [oamSet, h, oamPolicy]

theorem oamSet_ok {a : Addr} {v : Byte} {s t : State} (h : oamSet a v s = .ok () t) :
    oamOpen s = true ∧ t = setOamByte (oamIndex a) v s := by
  cases ho : oamOpen s
  · rw [oamSet_of_locked ho] at h
    cases h
  · rw [oamSet_of_open ho] at h
    cases h
    exact ⟨rfl, rfl⟩

theorem oamSet_stopped {a : Addr} {v : Byte} {s t : State} (h : oamSet a v s = .stopped t) :
    oamOpen s = false ∧ t = raiseViolation .set a s := by
  cases ho : oamOpen s
  · rw [oamSet_of_locked ho] at h
    cases h
    exact ⟨rfl, rfl⟩
  · rw [oamSet_of_open ho] at h
    cases h

/-- A write to video memory never faults (R196, R199). -/
theorem writeVram_ok (a : Addr) (v : Byte) (s : State) :
    ∃ b n, writeVram a v s = .ok () { s with vram := Memory.write s.vram (storeIndex 0x8000 a) b, draws := n } := by
  unfold writeVram
  split
  · exact ⟨_, _, rfl⟩
  · exact ⟨v, s.draws, rfl⟩

/-! ### The tick -/

theorem videoTick_of_lt {s : State} (h : s.col < colLast) : videoTick s = setCol (s.col + 1) s := if_pos h

theorem videoTick_of_not_lt {s : State} (h : ¬ s.col < colLast) :
    videoTick s = compareLine (advanceLine (setCol 0 s)) := if_neg h

theorem advanceLine_of_lt {s : State} (h : s.line < lineLast) :
    advanceLine s = enterLine (setLine (s.line + 1) s) := if_pos h

theorem advanceLine_of_not_lt {s : State} (h : ¬ s.line < lineLast) : advanceLine s = setLine 0 s := if_neg h

theorem advanceLine_line (s : State) : (advanceLine s).line = if s.line < lineLast then s.line + 1 else 0 := by
  by_cases h : s.line < lineLast
  · rw [advanceLine_of_lt h, if_pos h, enterLine_line, setLine_line]
  · rw [advanceLine_of_not_lt h, if_neg h, setLine_line]

/-- What a tick changes: the position, the two latches, and for a `Flip` the count and the response (R121). -/
theorem videoTick_frame (s : State) :
    videoTick s = { s with
      line := (videoTick s).line, col := (videoTick s).col, itVblank := (videoTick s).itVblank
      itLcd := (videoTick s).itLcd, flips := (videoTick s).flips, response := (videoTick s).response } := by
  unfold videoTick advanceLine enterLine compareLine
  split_ifs <;> rfl

/-- The next value of `col` (R121). -/
theorem videoTick_col (s : State) : (videoTick s).col = if s.col < colLast then s.col + 1 else 0 := by
  by_cases h : s.col < colLast
  · rw [videoTick_of_lt h, if_pos h, setCol_col]
  · rw [videoTick_of_not_lt h, if_neg h, compareLine_col, advanceLine_col, setCol_col]

/-- The next value of `line` (R121). -/
theorem videoTick_line (s : State) :
    (videoTick s).line = if s.col < colLast then s.line else if s.line < lineLast then s.line + 1 else 0 := by
  by_cases h : s.col < colLast
  · rw [videoTick_of_lt h, if_pos h, setCol_line]
  · rw [videoTick_of_not_lt h, if_neg h, compareLine_line, advanceLine_line, setCol_line]

theorem enterLine_of_eq {s : State} (h : s.line = lineVblank) : enterLine s = raiseVblank (emitFlip s) := if_pos h

theorem enterLine_of_ne {s : State} (h : s.line ≠ lineVblank) : enterLine s = s := if_neg h

/-- The tick enters line 144 (R121, R125). -/
def EntersVblank (s : State) : Prop := ¬ s.col < colLast ∧ s.line < lineLast ∧ s.line + 1 = lineVblank

/-- The tick that enters line 144 emits `Flip` and raises the vblank latch; no other tick does either (R123, R125). -/
theorem videoTick_flip (s : State) :
    (EntersVblank s ∧ (videoTick s).response = { s.response with flip := true } ∧ (videoTick s).flips = s.flips + 1 ∧
        (videoTick s).itVblank = true) ∨
      (¬ EntersVblank s ∧ (videoTick s).response = s.response ∧ (videoTick s).flips = s.flips ∧
        (videoTick s).itVblank = s.itVblank) := by
  by_cases h1 : s.col < colLast
  · exact .inr ⟨fun h => h.1 h1, by rw [videoTick_of_lt h1]; exact ⟨rfl, rfl, rfl⟩⟩
  · rw [videoTick_of_not_lt h1]
    by_cases h2 : s.line < lineLast
    · rw [advanceLine_of_lt (s := setCol 0 s) h2]
      by_cases h3 : s.line + 1 = lineVblank
      · exact .inl ⟨⟨h1, h2, h3⟩, by rw [enterLine_of_eq (by exact h3)]; simp⟩
      · exact .inr ⟨fun h => h3 h.2.2, by rw [enterLine_of_ne (by exact h3)]; simp⟩
    · rw [advanceLine_of_not_lt (s := setCol 0 s) h2]
      exact .inr ⟨fun h => h2 h.2.1, by simp⟩

/-- The line-compare latch after a tick (R124). -/
theorem videoTick_itLcd (s : State) :
    (videoTick s).itLcd = (s.itLcd || (!decide (s.col < colLast) && decide ((videoTick s).line = s.vregs.lyc))) := by
  by_cases h1 : s.col < colLast
  · rw [videoTick_of_lt h1]; simp [h1]
  · rw [videoTick_of_not_lt h1, compareLine_line]
    unfold compareLine
    split_ifs with h3 <;> simp_all

/-! ### The bus read -/

/-- What a read can do: give a byte and leave the state, assert the diagnostic, advance the count of draws; or raise the
OAM violation, from the OAM window with OAM locked (R65, R155, R190). -/
theorem readTarget_cases (x : Target) (a : Addr) (s : State) :
    (∃ b, readTarget x a s = .ok b s) ∨ (x = .unmapped ∧ readTarget x a s = .ok 0 (emitDiag .read a s)) ∨
      (x = .vram ∧ mode s = .active ∧ ∃ b, readTarget x a s = .ok b { s with draws := s.draws + 1 }) ∨
      (x = .oam ∧ oamOpen s = false ∧ readTarget x a s = .stopped (raiseViolation .get a s)) := by
  cases x
  case vram =>
    by_cases hm : mode s = .active
    · exact .inr (.inr (.inl ⟨rfl, hm, Config.freeByte s.draws, by
        simp [readTarget, readVram, vramGated_eq, hm, drawByte]⟩))
    · exact .inl ⟨Memory.byte s.vram (storeIndex 0x8000 a), by simp [readTarget, readVram, vramGated_eq, hm]⟩
  case oam =>
    cases ho : oamOpen s
    · exact .inr (.inr (.inr ⟨rfl, rfl, oamGet_of_locked ho a⟩))
    · exact .inl ⟨_, oamGet_of_open ho a⟩
  case unmapped => exact .inr (.inl ⟨rfl, rfl⟩)
  all_goals exact .inl ⟨_, rfl⟩

/-- A read changes nothing but the response's diagnostic and the count of draws (R65). -/
theorem readTarget_ok_frame {x : Target} {a : Addr} {s t : State} {b : Byte} (h : readTarget x a s = .ok b t) :
    t = { s with response := t.response, draws := t.draws } ∧
      t.response = { s.response with diag := t.response.diag } := by
  rcases readTarget_cases x a s with ⟨_, e⟩ | ⟨_, e⟩ | ⟨_, _, _, e⟩ | ⟨_, _, e⟩ <;> rw [e] at h <;> cases h <;>
    exact ⟨rfl, rfl⟩

theorem readTarget_stopped {x : Target} {a : Addr} {s t : State} (h : readTarget x a s = .stopped t) :
    x = .oam ∧ oamOpen s = false ∧ t = raiseViolation .get a s := by
  rcases readTarget_cases x a s with ⟨_, e⟩ | ⟨_, e⟩ | ⟨_, _, _, e⟩ | ⟨ht, ho, e⟩ <;> rw [e] at h <;> cases h
  exact ⟨ht, ho, rfl⟩

/-- The byte a read gives does not depend on the response. -/
theorem readTarget_ok_response {x : Target} {a : Addr} {s t : State} {r : Response} {b : Byte}
    (h : readTarget x a { s with response := r } = .ok b t) : ∃ u, readTarget x a s = .ok b u := by
  cases x
  case vram =>
    cases hg : vramGated s
    · have hg' : vramGated { s with response := r } = false := hg
      simp only [readTarget, readVram] at h ⊢
      rw [if_neg (by rw [hg']; decide)] at h
      cases h
      exact ⟨_, by rw [if_neg (by rw [hg]; decide)]⟩
    · have hg' : vramGated { s with response := r } = true := hg
      simp only [readTarget, readVram] at h ⊢
      rw [if_pos hg'] at h
      cases h
      exact ⟨_, by rw [if_pos hg]; rfl⟩
  case oam =>
    simp only [readTarget, readOam] at h ⊢
    cases ho : oamOpen s
    · rw [oamGet_of_locked (show oamOpen { s with response := r } = false from ho)] at h
      cases h
    · rw [oamGet_of_open (show oamOpen { s with response := r } = true from ho)] at h
      cases h
      exact ⟨_, oamGet_of_open ho a⟩
  all_goals
    cases h
    exact ⟨_, rfl⟩

/-- A bus read changes nothing but the response's diagnostic and the count of draws (R65). -/
theorem busRead_ok_frame {a : Addr} {s t : State} {b : Byte} (h : busRead a s = .ok b t) :
    t = { s with response := t.response, draws := t.draws } ∧
      t.response = { s.response with diag := t.response.diag } := readTarget_ok_frame h

theorem busRead_stopped {a : Addr} {s t : State} (h : busRead a s = .stopped t) :
    targetOf a = .oam ∧ oamOpen s = false ∧ t = raiseViolation .get a s := readTarget_stopped h

/-! ### The DMA step -/

/-- What a DMA step can do (R151, R156): nothing, one byte moved, or the OAM violation of the read or of the write. -/
theorem dmaStep_cases (s : State) :
    (dmaLen ≤ s.dmaIdx ∧ dmaStep s = .ok () s) ∨
      (¬ dmaLen ≤ s.dmaIdx ∧ oamOpen s = true ∧ ∃ b t, busRead s.dmaSrc s = .ok b t ∧
        dmaStep s = .ok () (advanceDma (setOamByte (oamIndex s.dmaIdx) b t))) ∨
      (¬ dmaLen ≤ s.dmaIdx ∧ oamOpen s = false ∧ targetOf s.dmaSrc = .oam ∧
        dmaStep s = .stopped (raiseViolation .get s.dmaSrc s)) ∨
      (¬ dmaLen ≤ s.dmaIdx ∧ oamOpen s = false ∧ targetOf s.dmaSrc ≠ .oam ∧ ∃ b t, busRead s.dmaSrc s = .ok b t ∧
        dmaStep s = .stopped (raiseViolation .set s.dmaIdx t)) := by
  by_cases hi : dmaLen ≤ s.dmaIdx
  · exact .inl ⟨hi, by simp [dmaStep, hi]⟩
  · right
    cases hb : busRead s.dmaSrc s with
    | stopped t =>
      obtain ⟨ht, ho, rfl⟩ := busRead_stopped hb
      exact .inr (.inl ⟨hi, ho, ht, by simp [dmaStep, hi, hb, Run.bind]⟩)
    | ok b t =>
      have hf := (busRead_ok_frame hb).1
      have hidx : t.dmaIdx = s.dmaIdx := by rw [hf]
      have hopen : oamOpen t = oamOpen s := oamOpen_congr (by rw [hf]) (by rw [hf])
      cases ho : oamOpen s
      · refine .inr (.inr ⟨hi, rfl, fun ht => ?_, b, t, rfl, ?_⟩)
        · have : busRead s.dmaSrc s = .stopped (raiseViolation .get s.dmaSrc s) := by
            simp [busRead, ht, readTarget, readOam, oamGet_of_locked ho]
          rw [this] at hb
          cases hb
        · simp [dmaStep, hi, hb, Run.bind, oamSet_of_locked (hopen.trans ho), hidx]
      · exact .inl ⟨hi, rfl, b, t, rfl, by simp [dmaStep, hi, hb, Run.bind, oamSet_of_open (hopen.trans ho), hidx]⟩

/-- A DMA step that moves a byte or does nothing changes OAM, the two DMA registers and, by its read, the diagnostic and
the count of draws; OAM only while it is open (R65, R151). -/
theorem dmaStep_ok_frame {s t : State} (h : dmaStep s = .ok () t) :
    t = { s with oam := t.oam, dmaSrc := t.dmaSrc, dmaIdx := t.dmaIdx, response := t.response, draws := t.draws } ∧
      t.response = { s.response with diag := t.response.diag } ∧ (t.oam ≠ s.oam → oamOpen s = true) := by
  rcases dmaStep_cases s with ⟨_, e⟩ | ⟨_, ho, b, u, hb, e⟩ | ⟨_, _, _, e⟩ | ⟨_, _, _, b, u, _, e⟩ <;> rw [e] at h <;>
    cases h
  · exact ⟨rfl, rfl, fun h => absurd rfl h⟩
  · obtain ⟨h1, h2⟩ := busRead_ok_frame hb
    refine ⟨?_, ?_, fun _ => ho⟩ <;> unfold advanceDma setOamByte <;> split_ifs
    · rw [h1]
    · rw [h1]
    · exact h2
    · exact h2

/-- A DMA step that faults changes nothing but the fault, the response and the count of draws (R156). -/
theorem dmaStep_stopped_frame {s t : State} (h : dmaStep s = .stopped t) :
    t = { s with fault := true, response := t.response, draws := t.draws } ∧ oamOpen s = false ∧
      t.response =
        { s.response with fault := true, diag := t.response.diag, violation := t.response.violation } := by
  rcases dmaStep_cases s with ⟨_, e⟩ | ⟨_, _, b, u, _, e⟩ | ⟨_, ho, _, e⟩ | ⟨_, ho, _, b, u, hb, e⟩ <;> rw [e] at h <;>
    cases h
  · exact ⟨rfl, ho, rfl⟩
  · obtain ⟨h1, h2⟩ := busRead_ok_frame hb
    refine ⟨?_, ho, ?_⟩ <;> unfold raiseViolation <;> simp only
    · rw [h1]
    · rw [h2]

/-- A trigger that faults nowhere, from the dmaStep_ok_frame of its step (R150). -/
theorem dmaTrigger_ok_frame {page : Byte} {s t : State} (h : dmaTrigger page s = .ok () t) :
    t = { s with oam := t.oam, dmaSrc := t.dmaSrc, dmaIdx := t.dmaIdx, response := t.response, draws := t.draws } ∧
      t.response = { s.response with diag := t.response.diag } ∧ (t.oam ≠ s.oam → oamOpen s = true) := by
  obtain ⟨h1, h2, h3⟩ := dmaStep_ok_frame (s := { s with dmaIdx := 0, dmaSrc := dmaSourceOf page }) h
  exact ⟨h1, h2, h3⟩

/-- A trigger that faults leaves the index 0 and the page's first address (R150, R156). -/
theorem dmaTrigger_stopped_frame {page : Byte} {s t : State} (h : dmaTrigger page s = .stopped t) :
    t = { s with
      dmaSrc := dmaSourceOf page, dmaIdx := 0, fault := true, response := t.response, draws := t.draws } ∧
      oamOpen s = false ∧
      t.response =
        { s.response with fault := true, diag := t.response.diag, violation := t.response.violation } := by
  obtain ⟨h1, h2, h3⟩ := dmaStep_stopped_frame (s := { s with dmaIdx := 0, dmaSrc := dmaSourceOf page }) h
  exact ⟨h1, h2, h3⟩

/-- A tick: video, DMA, timer (R200). -/
theorem tick_ok {s t : State} (h : tick s = .ok () t) : ∃ u, dmaStep (videoTick s) = .ok () u ∧ t = timerTick u := by
  unfold tick at h
  cases e : dmaStep (videoTick s) <;> rw [e] at h <;> cases h
  exact ⟨_, rfl, rfl⟩

/-- A tick whose DMA step faults leaves the timer alone (R156, R200). -/
theorem tick_stopped {s t : State} (h : tick s = .stopped t) : dmaStep (videoTick s) = .stopped t := by
  unfold tick at h
  cases e : dmaStep (videoTick s) <;> rw [e] at h <;> cases h
  rfl

/-! ### The register file and the latches -/

@[simp] theorem vregGet_vregSet_same (r : VReg) (v : Byte) (s : State) : vregGet r (vregSet r v s) = v := by
  cases r <;> exact BitVec.and_allOnes

theorem vregGet_vregSet_other {r q : VReg} (h : q ≠ r) (v : Byte) (s : State) :
    vregGet q (vregSet r v s) = vregGet q s := by
  cases r <;> cases q <;> first | rfl | exact absurd rfl h

@[simp] theorem latchOf_ackLatch_same (src : Source) (s : State) : latchOf src (ackLatch src s) = false := by
  cases src <;> rfl

theorem latchOf_ackLatch_other {src q : Source} (h : q ≠ src) (s : State) :
    latchOf q (ackLatch src s) = latchOf q s := by
  cases src <;> cases q <;> first | rfl | exact absurd rfl h

theorem latchOf_forceLatch_other {src q : Source} (h : q ≠ src) (b : Bool) (s : State) :
    latchOf q (forceLatch src b s) = latchOf q s := by
  cases src <;> cases q <;> first | rfl | exact absurd rfl h

end Sys2Proof.Machine
end

