-- ==== Sys2Proof/Laws/Exec.lean ====
section
/-! SUPPORT. What exec can do, once for all operations: every one of them is a command with a body, refused while the
fault flag is 1 (R97, R292), and stopped when its operand lies outside its window. -/

namespace Sys2Proof.Machine

/-- The body of a command without a byte. -/
def effectBody (effect : State → Run Unit) (s : State) : Run Byte := (effect s).bind fun _ t => .ok 0 t

/-- The body of a command that cannot fault and has no byte. -/
def storeBody (write : State → State) (s : State) : Run Byte := .ok 0 (write s)

/-- The body of every operation; the two reserved ones have none, and are answered by `exec_reserved`. -/
def bodyOf (i : Instr) : State → Run Byte :=
  match i with
  | .step => effectBody tick
  | .irqPeek => effectBody fun u => .ok () (respondIrq (select u) u)
  | .irqAck => effectBody fun u => .ok () (respondIrq (select u) (ackSelected (select u) u))
  | .reset => storeBody fun u => resetDispatcher (resetVideo (resetPeripherals u))
  | .reserved6 => storeBody id
  | .reserved7 => storeBody id
  | .fetchRom a => readRom a
  | .storeRom a v => storeBody (writeRom a v)
  | .fetchVram a => readVram a
  | .storeVram a v => effectBody (writeVram a v)
  | .fetchCram a => readCram a
  | .storeCram a v => storeBody (writeCram a v)
  | .fetchWram a => readWram a
  | .storeWram a v => storeBody (writeWram a v)
  | .fetchEcho a => readEcho a
  | .storeEcho a v => storeBody (writeEcho a v)
  | .fetchOam a => readOam a
  | .storeOam a v => effectBody (writeOam a v)
  | .fetchZram a => readZram a
  | .storeZram a v => storeBody (writeZram a v)
  | .fetchIoShadow a => readIoShadow a
  | .storeIoShadow a v => storeBody (writeIoShadow a v)
  | .fetchUnmapped a => readUnmapped a
  | .storeUnmapped a _ => storeBody (writeUnmapped a)
  | .fetchP1 => readP1
  | .storeP1 v => storeBody (writeP1 v)
  | .fetchDiv => readDiv
  | .storeDiv _ => storeBody writeDiv
  | .fetchTima => readTima
  | .storeTima v => storeBody (writeTima v)
  | .fetchTma => readTma
  | .storeTma v => storeBody (writeTma v)
  | .fetchTac => readTac
  | .storeTac v => storeBody (writeTac v)
  | .fetchIf => readIf
  | .storeIf v => storeBody (writeIf v)
  | .fetchCtrl => readVreg .ctrl
  | .storeCtrl v => storeBody (vregSet .ctrl v)
  | .fetchStat => readVreg .stat
  | .storeStat v => storeBody (vregSet .stat v)
  | .fetchScy => readVreg .scy
  | .storeScy v => storeBody (vregSet .scy v)
  | .fetchScx => readVreg .scx
  | .storeScx v => storeBody (vregSet .scx v)
  | .fetchLy => readLy
  | .storeLy v => storeBody (writeLy v)
  | .fetchLyc => readVreg .lyc
  | .storeLyc v => storeBody (vregSet .lyc v)
  | .fetchDma => readDma
  | .storeDma v => effectBody (dmaTrigger v)
  | .fetchPal0 => readVreg .pal0
  | .storePal0 v => storeBody (vregSet .pal0 v)
  | .fetchPal1 => readVreg .pal1
  | .storePal1 v => storeBody (vregSet .pal1 v)
  | .fetchPal2 => readVreg .pal2
  | .storePal2 v => storeBody (vregSet .pal2 v)
  | .fetchWy => readVreg .wy
  | .storeWy v => storeBody (vregSet .wy v)
  | .fetchWx => readVreg .wx
  | .storeWx v => storeBody (vregSet .wx v)
  | .fetchIe => readIe
  | .storeIe v => storeBody (writeIe v)

/-- The body of a `FETCH` is the read of its target (R190). -/
theorem bodyOf_fetchOf (t : Target) (a : Addr) : bodyOf (fetchOf t a) = readTarget t a := by
  cases t <;> rfl

/-- A command code that is always refused (R97 (a)). -/
def Reserved (i : Instr) : Prop := i = .reserved6 ∨ i = .reserved7

theorem exec_of_reserved {i : Instr} (h : Reserved i) (s : State) : exec i s = .next (refuse s) := by
  rcases h with rfl | rfl <;> rfl

theorem exec_of_not_wellFormed {i : Instr} (h : i.wellFormed = false) (s : State) :
    exec i s = .fault .operandOutsideWindow := by
  cases i <;> first | cases h | (simp only [Instr.wellFormed] at h; exact inWindow_of_not_covers h _)

/-- Every other operation is a command with its body. -/
theorem exec_of_wellFormed {i : Instr} (h : i.wellFormed = true) (hr : ¬ Reserved i) (s : State) :
    exec i s = runCommand (bodyOf i) s := by
  cases i
  case reserved6 => exact absurd (.inl rfl) hr
  case reserved7 => exact absurd (.inr rfl) hr
  all_goals first
    | rfl
    | (simp only [Instr.wellFormed] at h; exact inWindow_of_covers h _)

/-- A well-formed operation always answers a next state, and while the fault flag is 1 it is refused (R97 (b)). -/
theorem exec_of_fault {i : Instr} (h : i.wellFormed = true) {s : State} (hf : s.fault = true) :
    exec i s = .next (refuse s) := by
  by_cases hr : Reserved i
  · exact exec_of_reserved hr s
  · rw [exec_of_wellFormed h hr, runCommand_of_fault hf]

/-- Everything a command can do when it answers a next state: refuse, complete with its byte, or fault. -/
theorem exec_next {i : Instr} {s t : State} (h : exec i s = .next t) :
    ((Reserved i ∨ s.fault = true) ∧ t = refuse s) ∨
      (¬ Reserved i ∧ i.wellFormed = true ∧ s.fault = false ∧
        ((∃ b u, bodyOf i (beginCommand s) = .ok b u ∧ t = { u with response := { u.response with rdata := b } }) ∨
          bodyOf i (beginCommand s) = .stopped t)) := by
  cases hw : i.wellFormed
  · rw [exec_of_not_wellFormed hw] at h
    cases h
  · by_cases hr : Reserved i
    · rw [exec_of_reserved hr] at h
      cases h
      exact .inl ⟨.inl hr, rfl⟩
    · rw [exec_of_wellFormed hw hr] at h
      rcases runCommand_cases (bodyOf i) s with ⟨hf, e⟩ | ⟨hf, b, u, hb, e⟩ | ⟨hf, u, hb, e⟩ <;> rw [e] at h <;> cases h
      · exact .inl ⟨.inr hf, rfl⟩
      · exact .inr ⟨hr, rfl, hf, .inl ⟨b, u, hb, rfl⟩⟩
      · exact .inr ⟨hr, rfl, hf, .inr hb⟩

/-- Every operation is one of the commands without an address, a `FETCH` or a `STORE` (R92). -/
theorem instr_cases (i : Instr) :
    Reserved i ∨ i = .step ∨ i = .irqPeek ∨ i = .irqAck ∨ i = .reset ∨ (∃ x a, i = fetchOf x a) ∨
      ∃ x a v, i = storeOf x a v := by
  cases i
  case step => simp
  case irqPeek => simp
  case irqAck => simp
  case reset => simp
  case reserved6 => simp [Reserved]
  case reserved7 => simp [Reserved]
  case fetchRom a => exact .inr (.inr (.inr (.inr (.inr (.inl ⟨.rom, a, rfl⟩)))))
  case storeRom a v => exact .inr (.inr (.inr (.inr (.inr (.inr ⟨.rom, a, v, rfl⟩)))))
  case fetchVram a => exact .inr (.inr (.inr (.inr (.inr (.inl ⟨.vram, a, rfl⟩)))))
  case storeVram a v => exact .inr (.inr (.inr (.inr (.inr (.inr ⟨.vram, a, v, rfl⟩)))))
  case fetchCram a => exact .inr (.inr (.inr (.inr (.inr (.inl ⟨.cram, a, rfl⟩)))))
  case storeCram a v => exact .inr (.inr (.inr (.inr (.inr (.inr ⟨.cram, a, v, rfl⟩)))))
  case fetchWram a => exact .inr (.inr (.inr (.inr (.inr (.inl ⟨.wram, a, rfl⟩)))))
  case storeWram a v => exact .inr (.inr (.inr (.inr (.inr (.inr ⟨.wram, a, v, rfl⟩)))))
  case fetchEcho a => exact .inr (.inr (.inr (.inr (.inr (.inl ⟨.echo, a, rfl⟩)))))
  case storeEcho a v => exact .inr (.inr (.inr (.inr (.inr (.inr ⟨.echo, a, v, rfl⟩)))))
  case fetchOam a => exact .inr (.inr (.inr (.inr (.inr (.inl ⟨.oam, a, rfl⟩)))))
  case storeOam a v => exact .inr (.inr (.inr (.inr (.inr (.inr ⟨.oam, a, v, rfl⟩)))))
  case fetchZram a => exact .inr (.inr (.inr (.inr (.inr (.inl ⟨.zram, a, rfl⟩)))))
  case storeZram a v => exact .inr (.inr (.inr (.inr (.inr (.inr ⟨.zram, a, v, rfl⟩)))))
  case fetchIoShadow a => exact .inr (.inr (.inr (.inr (.inr (.inl ⟨.ioShadow, a, rfl⟩)))))
  case storeIoShadow a v => exact .inr (.inr (.inr (.inr (.inr (.inr ⟨.ioShadow, a, v, rfl⟩)))))
  case fetchUnmapped a => exact .inr (.inr (.inr (.inr (.inr (.inl ⟨.unmapped, a, rfl⟩)))))
  case storeUnmapped a v => exact .inr (.inr (.inr (.inr (.inr (.inr ⟨.unmapped, a, v, rfl⟩)))))
  case fetchP1 => exact .inr (.inr (.inr (.inr (.inr (.inl ⟨.p1, 0, rfl⟩)))))
  case storeP1 v => exact .inr (.inr (.inr (.inr (.inr (.inr ⟨.p1, 0, v, rfl⟩)))))
  case fetchDiv => exact .inr (.inr (.inr (.inr (.inr (.inl ⟨.div, 0, rfl⟩)))))
  case storeDiv v => exact .inr (.inr (.inr (.inr (.inr (.inr ⟨.div, 0, v, rfl⟩)))))
  case fetchTima => exact .inr (.inr (.inr (.inr (.inr (.inl ⟨.tima, 0, rfl⟩)))))
  case storeTima v => exact .inr (.inr (.inr (.inr (.inr (.inr ⟨.tima, 0, v, rfl⟩)))))
  case fetchTma => exact .inr (.inr (.inr (.inr (.inr (.inl ⟨.tma, 0, rfl⟩)))))
  case storeTma v => exact .inr (.inr (.inr (.inr (.inr (.inr ⟨.tma, 0, v, rfl⟩)))))
  case fetchTac => exact .inr (.inr (.inr (.inr (.inr (.inl ⟨.tac, 0, rfl⟩)))))
  case storeTac v => exact .inr (.inr (.inr (.inr (.inr (.inr ⟨.tac, 0, v, rfl⟩)))))
  case fetchIf => exact .inr (.inr (.inr (.inr (.inr (.inl ⟨.irqFlag, 0, rfl⟩)))))
  case storeIf v => exact .inr (.inr (.inr (.inr (.inr (.inr ⟨.irqFlag, 0, v, rfl⟩)))))
  case fetchCtrl => exact .inr (.inr (.inr (.inr (.inr (.inl ⟨.ctrl, 0, rfl⟩)))))
  case storeCtrl v => exact .inr (.inr (.inr (.inr (.inr (.inr ⟨.ctrl, 0, v, rfl⟩)))))
  case fetchStat => exact .inr (.inr (.inr (.inr (.inr (.inl ⟨.stat, 0, rfl⟩)))))
  case storeStat v => exact .inr (.inr (.inr (.inr (.inr (.inr ⟨.stat, 0, v, rfl⟩)))))
  case fetchScy => exact .inr (.inr (.inr (.inr (.inr (.inl ⟨.scy, 0, rfl⟩)))))
  case storeScy v => exact .inr (.inr (.inr (.inr (.inr (.inr ⟨.scy, 0, v, rfl⟩)))))
  case fetchScx => exact .inr (.inr (.inr (.inr (.inr (.inl ⟨.scx, 0, rfl⟩)))))
  case storeScx v => exact .inr (.inr (.inr (.inr (.inr (.inr ⟨.scx, 0, v, rfl⟩)))))
  case fetchLy => exact .inr (.inr (.inr (.inr (.inr (.inl ⟨.ly, 0, rfl⟩)))))
  case storeLy v => exact .inr (.inr (.inr (.inr (.inr (.inr ⟨.ly, 0, v, rfl⟩)))))
  case fetchLyc => exact .inr (.inr (.inr (.inr (.inr (.inl ⟨.lyc, 0, rfl⟩)))))
  case storeLyc v => exact .inr (.inr (.inr (.inr (.inr (.inr ⟨.lyc, 0, v, rfl⟩)))))
  case fetchDma => exact .inr (.inr (.inr (.inr (.inr (.inl ⟨.dma, 0, rfl⟩)))))
  case storeDma v => exact .inr (.inr (.inr (.inr (.inr (.inr ⟨.dma, 0, v, rfl⟩)))))
  case fetchPal0 => exact .inr (.inr (.inr (.inr (.inr (.inl ⟨.pal0, 0, rfl⟩)))))
  case storePal0 v => exact .inr (.inr (.inr (.inr (.inr (.inr ⟨.pal0, 0, v, rfl⟩)))))
  case fetchPal1 => exact .inr (.inr (.inr (.inr (.inr (.inl ⟨.pal1, 0, rfl⟩)))))
  case storePal1 v => exact .inr (.inr (.inr (.inr (.inr (.inr ⟨.pal1, 0, v, rfl⟩)))))
  case fetchPal2 => exact .inr (.inr (.inr (.inr (.inr (.inl ⟨.pal2, 0, rfl⟩)))))
  case storePal2 v => exact .inr (.inr (.inr (.inr (.inr (.inr ⟨.pal2, 0, v, rfl⟩)))))
  case fetchWy => exact .inr (.inr (.inr (.inr (.inr (.inl ⟨.wy, 0, rfl⟩)))))
  case storeWy v => exact .inr (.inr (.inr (.inr (.inr (.inr ⟨.wy, 0, v, rfl⟩)))))
  case fetchWx => exact .inr (.inr (.inr (.inr (.inr (.inl ⟨.wx, 0, rfl⟩)))))
  case storeWx v => exact .inr (.inr (.inr (.inr (.inr (.inr ⟨.wx, 0, v, rfl⟩)))))
  case fetchIe => exact .inr (.inr (.inr (.inr (.inr (.inl ⟨.ie, 0, rfl⟩)))))
  case storeIe v => exact .inr (.inr (.inr (.inr (.inr (.inr ⟨.ie, 0, v, rfl⟩)))))

theorem storeBody_ok {write : State → State} {s t : State} {b : Byte} (h : storeBody write s = .ok b t) :
    b = 0 ∧ t = write s := by
  cases h
  exact ⟨rfl, rfl⟩

theorem effectBody_ok {effect : State → Run Unit} {s t : State} {b : Byte} (h : effectBody effect s = .ok b t) :
    b = 0 ∧ effect s = .ok () t := by
  unfold effectBody at h
  cases e : effect s <;> rw [e] at h <;> cases h
  exact ⟨rfl, rfl⟩

theorem effectBody_stopped {effect : State → Run Unit} {s t : State} (h : effectBody effect s = .stopped t) :
    effect s = .stopped t := by
  unfold effectBody at h
  cases e : effect s <;> rw [e] at h <;> cases h
  rfl

/-- The state with a byte on the response port. -/
def withData (b : Byte) (s : State) : State := { s with response := { s.response with rdata := b } }

/-- Everything an operation can do when it answers a next state, one constructor for each way. -/
inductive Does (s : State) : Instr → State → Prop where
  | refuse {i : Instr} (h : Reserved i ∨ s.fault = true) : Does s i (refuse s)
  | step {u : State} (hf : s.fault = false) (h : dmaStep (videoTick (beginCommand s)) = .ok () u) :
      Does s .step (withData 0 (timerTick u))
  | stepFault {u : State} (hf : s.fault = false) (h : dmaStep (videoTick (beginCommand s)) = .stopped u) : Does s .step u
  | irqPeek (hf : s.fault = false) : Does s .irqPeek { s with response := irqResponse (select s) }
  | irqAck (hf : s.fault = false) :
      Does s .irqAck { ackSelected (select s) s with response := irqResponse (select s) }
  | reset (hf : s.fault = false) : Does s .reset (resetDispatcher (resetVideo (resetPeripherals (beginCommand s))))
  | fetch (x : Target) (a : Addr) {b : Byte} {u : State} (hf : s.fault = false)
      (h : readTarget x a (beginCommand s) = .ok b u) : Does s (fetchOf x a) (withData b u)
  | fetchOamFault (a : Addr) (hf : s.fault = false) (ho : oamOpen s = false) :
      Does s (.fetchOam a) (raiseViolation .get a (beginCommand s))
  | storeOam (a : Addr) (v : Byte) (hf : s.fault = false) (ho : oamOpen s = true) :
      Does s (.storeOam a v) (setOamByte (oamIndex a) v (beginCommand s))
  | storeOamFault (a : Addr) (v : Byte) (hf : s.fault = false) (ho : oamOpen s = false) :
      Does s (.storeOam a v) (raiseViolation .set a (beginCommand s))
  | storeDma (v : Byte) {u : State} (hf : s.fault = false) (h : dmaTrigger v (beginCommand s) = .ok () u) :
      Does s (.storeDma v) (withData 0 u)
  | storeDmaFault (v : Byte) {u : State} (hf : s.fault = false) (h : dmaTrigger v (beginCommand s) = .stopped u) :
      Does s (.storeDma v) u
  | storeVram (a : Addr) (v b : Byte) (n : Nat) (hf : s.fault = false) :
      Does s (.storeVram a v)
        { s with vram := Memory.write s.vram (storeIndex 0x8000 a) b, draws := n, response := Response.quiet }
  | store (x : Target) (a : Addr) (v : Byte) {t : State} (hf : s.fault = false) (hx : x ≠ .oam ∧ x ≠ .dma ∧ x ≠ .vram)
      (h : bodyOf (storeOf x a v) (beginCommand s) = .ok 0 t) : Does s (storeOf x a v) t

/-- What exec does, once for all operations. -/
theorem exec_does {i : Instr} {s t : State} (h : exec i s = .next t) : Does s i t := by
  rcases exec_next h with ⟨h', rfl⟩ | ⟨hr, -, hf, hb⟩
  · exact .refuse h'
  clear h
  rcases instr_cases i with h | rfl | rfl | rfl | rfl | ⟨x, a, rfl⟩ | ⟨x, a, v, rfl⟩
  · exact absurd h hr
  · rcases hb with ⟨b, u, hb, rfl⟩ | hb
    · obtain ⟨rfl, hb2⟩ := effectBody_ok hb
      obtain ⟨d, hd, rfl⟩ := tick_ok hb2
      exact .step hf hd
    · exact .stepFault hf (tick_stopped (effectBody_stopped hb))
  · rcases hb with ⟨b, u, hb, rfl⟩ | hb <;> cases hb
    exact .irqPeek hf
  · rcases hb with ⟨b, u, hb, rfl⟩ | hb <;> cases hb
    convert Does.irqAck hf using 1
    change ({ ackSelected (select s) (beginCommand s) with
      response := { (ackSelected (select s) (beginCommand s)).response with irq := select s, rdata := 0 } } : State) = _
    cases select s with
    | none => rfl
    | some src => cases src <;> rfl
  · rcases hb with ⟨b, u, hb, rfl⟩ | hb <;> cases hb
    exact .reset hf
  · rw [bodyOf_fetchOf] at hb
    rcases hb with ⟨b, u, hb, rfl⟩ | hb
    · exact .fetch x a hf hb
    · obtain ⟨rfl, ho, rfl⟩ := readTarget_stopped hb
      exact .fetchOamFault a hf ho
  · cases x
    case vram =>
      obtain ⟨b, n, e⟩ := writeVram_ok a v (beginCommand s)
      rcases hb with ⟨_, u, hb, rfl⟩ | hb
      · obtain ⟨rfl, hb2⟩ := effectBody_ok hb
        rw [e] at hb2
        cases hb2
        exact .storeVram a v b n hf
      · have hb2 := effectBody_stopped hb
        rw [e] at hb2
        cases hb2
    case oam =>
      rcases hb with ⟨_, u, hb, rfl⟩ | hb
      · obtain ⟨rfl, hb2⟩ := effectBody_ok hb
        obtain ⟨ho, rfl⟩ := oamSet_ok hb2
        have e : withData 0 (setOamByte (oamIndex a) v (beginCommand s)) = setOamByte (oamIndex a) v (beginCommand s) := by
          unfold setOamByte
          split <;> rfl
        exact e ▸ Does.storeOam a v hf ho
      · obtain ⟨ho, rfl⟩ := oamSet_stopped (effectBody_stopped hb)
        exact .storeOamFault a v hf ho
    case dma =>
      rcases hb with ⟨_, u, hb, rfl⟩ | hb
      · obtain ⟨rfl, hb2⟩ := effectBody_ok hb
        exact .storeDma v hf hb2
      · exact .storeDmaFault v hf (effectBody_stopped hb)
    all_goals
      refine .store _ a v hf (by decide) ?_
      rcases hb with ⟨b, u, hb, rfl⟩ | hb <;> cases hb
      rfl

end Sys2Proof.Machine
end

