-- ==== Sys2Proof/Laws/PerInstr.lean ====
section
/-! SUPPORT. For every operation, the fields of the command word that encodes it: its command code (R92), and the fields
it does not use, which are 0 (R91, R94). -/

namespace Sys2Proof.Laws.OpField

/-- The command code of an operation (R92). -/
def code (i : Instr) : BitVec 3 :=
  match i with
  | .step => 0
  | .irqPeek => 3
  | .irqAck => 4
  | .reset => 5
  | .reserved6 => 6
  | .reserved7 => 7
  | .fetchRom _ | .fetchVram _ | .fetchCram _ | .fetchWram _ | .fetchEcho _ | .fetchOam _ | .fetchZram _
  | .fetchIoShadow _ | .fetchUnmapped _ | .fetchP1 | .fetchDiv | .fetchTima | .fetchTma | .fetchTac
  | .fetchIf | .fetchCtrl | .fetchStat | .fetchScy | .fetchScx | .fetchLy | .fetchLyc | .fetchDma
  | .fetchPal0 | .fetchPal1 | .fetchPal2 | .fetchWy | .fetchWx | .fetchIe => 1
  | .storeRom _ _ | .storeVram _ _ | .storeCram _ _ | .storeWram _ _ | .storeEcho _ _ | .storeOam _ _
  | .storeZram _ _ | .storeIoShadow _ _ | .storeUnmapped _ _ | .storeP1 _ | .storeDiv _ | .storeTima _
  | .storeTma _ | .storeTac _ | .storeIf _ | .storeCtrl _ | .storeStat _ | .storeScy _ | .storeScx _
  | .storeLy _ | .storeLyc _ | .storeDma _ | .storePal0 _ | .storePal1 _ | .storePal2 _ | .storeWy _
  | .storeWx _ | .storeIe _ => 2

/-- The command word of an operation carries its command code; only a `STORE` carries a byte, and only a `FETCH` or a
`STORE` an address. -/
def Statement (i : Instr) : Prop :=
  CommandWord.op (encode i) = code i ∧ (code i ≠ 2 → CommandWord.data (encode i) = 0) ∧
    (code i ≠ 1 → code i ≠ 2 → CommandWord.addr (encode i) = 0)

/-- The fields are read off the encoder's table, row by row. -/
theorem statement_of_encode (i : Instr) : Statement i := by
  cases i <;> simp [Statement, encode, code]

theorem step : Statement .step := statement_of_encode _
theorem irqPeek : Statement .irqPeek := statement_of_encode _
theorem irqAck : Statement .irqAck := statement_of_encode _
theorem reset : Statement .reset := statement_of_encode _
theorem reserved6 : Statement .reserved6 := statement_of_encode _
theorem reserved7 : Statement .reserved7 := statement_of_encode _
theorem fetchRom (a : Addr) : Statement (.fetchRom a) := statement_of_encode _
theorem storeRom (a : Addr) (v : Byte) : Statement (.storeRom a v) := statement_of_encode _
theorem fetchVram (a : Addr) : Statement (.fetchVram a) := statement_of_encode _
theorem storeVram (a : Addr) (v : Byte) : Statement (.storeVram a v) := statement_of_encode _
theorem fetchCram (a : Addr) : Statement (.fetchCram a) := statement_of_encode _
theorem storeCram (a : Addr) (v : Byte) : Statement (.storeCram a v) := statement_of_encode _
theorem fetchWram (a : Addr) : Statement (.fetchWram a) := statement_of_encode _
theorem storeWram (a : Addr) (v : Byte) : Statement (.storeWram a v) := statement_of_encode _
theorem fetchEcho (a : Addr) : Statement (.fetchEcho a) := statement_of_encode _
theorem storeEcho (a : Addr) (v : Byte) : Statement (.storeEcho a v) := statement_of_encode _
theorem fetchOam (a : Addr) : Statement (.fetchOam a) := statement_of_encode _
theorem storeOam (a : Addr) (v : Byte) : Statement (.storeOam a v) := statement_of_encode _
theorem fetchZram (a : Addr) : Statement (.fetchZram a) := statement_of_encode _
theorem storeZram (a : Addr) (v : Byte) : Statement (.storeZram a v) := statement_of_encode _
theorem fetchIoShadow (a : Addr) : Statement (.fetchIoShadow a) := statement_of_encode _
theorem storeIoShadow (a : Addr) (v : Byte) : Statement (.storeIoShadow a v) := statement_of_encode _
theorem fetchUnmapped (a : Addr) : Statement (.fetchUnmapped a) := statement_of_encode _
theorem storeUnmapped (a : Addr) (v : Byte) : Statement (.storeUnmapped a v) := statement_of_encode _
theorem fetchP1 : Statement .fetchP1 := statement_of_encode _
theorem storeP1 (v : Byte) : Statement (.storeP1 v) := statement_of_encode _
theorem fetchDiv : Statement .fetchDiv := statement_of_encode _
theorem storeDiv (v : Byte) : Statement (.storeDiv v) := statement_of_encode _
theorem fetchTima : Statement .fetchTima := statement_of_encode _
theorem storeTima (v : Byte) : Statement (.storeTima v) := statement_of_encode _
theorem fetchTma : Statement .fetchTma := statement_of_encode _
theorem storeTma (v : Byte) : Statement (.storeTma v) := statement_of_encode _
theorem fetchTac : Statement .fetchTac := statement_of_encode _
theorem storeTac (v : Byte) : Statement (.storeTac v) := statement_of_encode _
theorem fetchIf : Statement .fetchIf := statement_of_encode _
theorem storeIf (v : Byte) : Statement (.storeIf v) := statement_of_encode _
theorem fetchCtrl : Statement .fetchCtrl := statement_of_encode _
theorem storeCtrl (v : Byte) : Statement (.storeCtrl v) := statement_of_encode _
theorem fetchStat : Statement .fetchStat := statement_of_encode _
theorem storeStat (v : Byte) : Statement (.storeStat v) := statement_of_encode _
theorem fetchScy : Statement .fetchScy := statement_of_encode _
theorem storeScy (v : Byte) : Statement (.storeScy v) := statement_of_encode _
theorem fetchScx : Statement .fetchScx := statement_of_encode _
theorem storeScx (v : Byte) : Statement (.storeScx v) := statement_of_encode _
theorem fetchLy : Statement .fetchLy := statement_of_encode _
theorem storeLy (v : Byte) : Statement (.storeLy v) := statement_of_encode _
theorem fetchLyc : Statement .fetchLyc := statement_of_encode _
theorem storeLyc (v : Byte) : Statement (.storeLyc v) := statement_of_encode _
theorem fetchDma : Statement .fetchDma := statement_of_encode _
theorem storeDma (v : Byte) : Statement (.storeDma v) := statement_of_encode _
theorem fetchPal0 : Statement .fetchPal0 := statement_of_encode _
theorem storePal0 (v : Byte) : Statement (.storePal0 v) := statement_of_encode _
theorem fetchPal1 : Statement .fetchPal1 := statement_of_encode _
theorem storePal1 (v : Byte) : Statement (.storePal1 v) := statement_of_encode _
theorem fetchPal2 : Statement .fetchPal2 := statement_of_encode _
theorem storePal2 (v : Byte) : Statement (.storePal2 v) := statement_of_encode _
theorem fetchWy : Statement .fetchWy := statement_of_encode _
theorem storeWy (v : Byte) : Statement (.storeWy v) := statement_of_encode _
theorem fetchWx : Statement .fetchWx := statement_of_encode _
theorem storeWx (v : Byte) : Statement (.storeWx v) := statement_of_encode _
theorem fetchIe : Statement .fetchIe := statement_of_encode _
theorem storeIe (v : Byte) : Statement (.storeIe v) := statement_of_encode _

end Sys2Proof.Laws.OpField
end

