-- ==== Sys2Proof/Laws/Pseudo.lean ====
section
/-! SUPPORT. Issuing a command is executing it, and what a sequence of commands does, one command at a time (R90, R104). -/

namespace Sys2Proof.Machine

/-- No operation reads the response port. -/
theorem exec_response (i : Instr) (s : State) (r : Response) : exec i { s with response := r } = exec i s := by
  cases i <;> rfl

theorem issue_of_exec {cw : CommandWord} {s t : State} (h : exec (decode cw) s = .next t) : issue cw s = some t := by
  have e : step (presentCommand cw s) = exec (decode cw) s := rfl
  rw [issue, e, h]

theorem exec_of_issue {cw : CommandWord} {s t : State} (h : issue cw s = some t) : exec (decode cw) s = .next t := by
  have e : step (presentCommand cw s) = exec (decode cw) s := rfl
  rw [issue, e] at h
  split at h <;> cases h
  assumption

@[simp] theorem issueAll_nil (s : State) : issueAll [] s = some (s, []) := rfl

theorem issueAll_cons {cw : CommandWord} {s t : State} (h : issue cw s = some t) (ws : List CommandWord) :
    issueAll (cw :: ws) s = (issueAll ws t).map fun r => (r.1, t.response :: r.2) := by
  simp [issueAll, h]

theorem issueAll_append {ws vs : List CommandWord} {s t u : State} {rs qs : List Response}
    (h : issueAll ws s = some (t, rs)) (h' : issueAll vs t = some (u, qs)) :
    issueAll (ws ++ vs) s = some (u, rs ++ qs) := by
  induction ws generalizing s rs with
  | nil =>
    cases h
    exact h'
  | cons cw ws ih =>
    cases hc : issue cw s with
    | none => simp [issueAll, hc] at h
    | some v =>
      rw [issueAll_cons hc] at h
      obtain ⟨⟨t', rs'⟩, hr, e⟩ := Option.map_eq_some_iff.1 h
      cases e
      rw [List.cons_append, issueAll_cons hc, ih hr]
      rfl

@[simp] theorem decode_stepWord : decode stepWord = .step := by decide

@[simp] theorem decode_fetchLineWord : decode fetchLineWord = .fetchLy := by decide

@[simp] theorem decode_ackWord : decode ackWord = .irqAck := by decide

theorem decode_dmaWord (p : Byte) : decode (CommandWord.mk 2 0xff46 p) = .storeDma p := by
  rw [decode_mk_store]
  rfl

theorem decode_eiWord (m : Byte) : decode (CommandWord.mk 2 0xffff m) = .storeIe m := by
  rw [decode_mk_store]
  rfl

/-- One round of `WAITLINE` (R104). -/
theorem waitLine_succ {n : Byte} {k : Nat} {s t u : State} (h : exec .step s = .next t) (h' : exec .fetchLy t = .next u) :
    waitLine n (k + 1) s =
      if fetchReturned n u.response then some (u, [t.response, u.response])
      else (waitLine n k u).map fun r => (r.1, t.response :: u.response :: r.2) := by
  rw [waitLine, issue_of_exec (cw := stepWord) (by rw [decode_stepWord, h]), Option.bind_some,
    issue_of_exec (cw := fetchLineWord) (by rw [decode_fetchLineWord, h']), Option.bind_some]

/-- One round of `ACKALL` (R104). -/
theorem ackAll_succ {k : Nat} {s t : State} (h : exec .irqAck s = .next t) :
    ackAll (k + 1) s =
      if ackReturnedNone t.response then some (t, [t.response])
      else (ackAll k t).map fun r => (r.1, t.response :: r.2) := by
  rw [ackAll, issue_of_exec (cw := ackWord) (by rw [decode_ackWord, h]), Option.bind_some]

end Sys2Proof.Machine
end

