-- ==== Sys2Proof/Laws/Raster.lean ====
section
/-! SUPPORT. The raster position as one number, and what a `STEP` does to it, to the transfer and to the fault flag (R121,
R122, R127, R151, R200). -/

namespace Sys2Proof.Machine

/-- The tick of the frame that a position inside the raster is (R122). -/
def rasterPos (s : State) : Nat := s.line.toNat * 456 + s.col.toNat

theorem rasterInRange_iff {s : State} : RasterInRange s ↔ s.line.toNat ≤ 154 ∧ s.col.toNat ≤ 455 := Iff.rfl

theorem rasterPos_congr {s t : State} (hl : t.line = s.line) (hc : t.col = s.col) : rasterPos t = rasterPos s := by
  simp [rasterPos, hl, hc]

theorem rasterInRange_congr {s t : State} (hl : t.line = s.line) (hc : t.col = s.col) :
    RasterInRange t ↔ RasterInRange s := by
  rw [RasterInRange, RasterInRange, hl, hc]

/-- A tick moves the position on by one, from the end of the frame to its start (R121, R122). -/
theorem videoTick_rasterPos {s : State} (h : RasterInRange s) :
    RasterInRange (videoTick s) ∧ rasterPos (videoTick s) = (rasterPos s + 1) % 70680 := by
  obtain ⟨h1, h2⟩ := rasterInRange_iff.1 h
  unfold rasterPos
  rw [rasterInRange_iff, videoTick_line, videoTick_col]
  unfold colLast lineLast
  by_cases c1 : s.col < 455
  · have : s.col.toNat < 455 := c1
    have e : (s.col + 1).toNat = s.col.toNat + 1 := by bv_omega
    rw [if_pos c1, if_pos c1, e]
    omega
  · have : ¬ s.col.toNat < 455 := c1
    rw [if_neg c1, if_neg c1]
    by_cases c2 : s.line < 154
    · have : s.line.toNat < 154 := c2
      have e : (s.line + 1).toNat = s.line.toNat + 1 := by bv_omega
      rw [if_pos c2, e]
      simp
      omega
    · have : ¬ s.line.toNat < 154 := c2
      rw [if_neg c2]
      simp
      omega

/-- OAM is open from line 144 on, and from column 173 of every earlier line (R127, R130). -/
theorem oamOpen_iff_rasterPos {s : State} (h : RasterInRange s) :
    oamOpen s = true ↔ 144 * 456 ≤ rasterPos s ∨ 173 ≤ rasterPos s % 456 := by
  obtain ⟨h1, h2⟩ := rasterInRange_iff.1 h
  have e : rasterPos s % 456 = s.col.toNat := by unfold rasterPos; omega
  have e2 : 144 * 456 ≤ rasterPos s ↔ 144 ≤ s.line.toNat := by unfold rasterPos; omega
  rw [e, e2]
  unfold oamOpen mode modeAt lineVblank colPreludeLast colActiveLast
  by_cases c1 : (144 : BitVec 8) ≤ s.line
  · have : 144 ≤ s.line.toNat := c1
    rw [if_pos c1]
    simp [this]
  · have : ¬ 144 ≤ s.line.toNat := c1
    rw [if_neg c1]
    by_cases c2 : s.col ≤ 79
    · have : s.col.toNat ≤ 79 := c2
      rw [if_pos c2]
      simp
      omega
    · have : ¬ s.col.toNat ≤ 79 := c2
      rw [if_neg c2]
      by_cases c3 : s.col ≤ 172
      · have : s.col.toNat ≤ 172 := c3
        rw [if_pos c3]
        simp
        omega
      · have : ¬ s.col.toNat ≤ 172 := c3
        rw [if_neg c3]
        simp
        omega

/-- The mode is VBlank from line 144 on (R127). -/
theorem mode_vblank_iff_rasterPos {s : State} (h : RasterInRange s) : mode s = .vblank ↔ 144 * 456 ≤ rasterPos s := by
  obtain ⟨h1, h2⟩ := rasterInRange_iff.1 h
  have e2 : 144 * 456 ≤ rasterPos s ↔ 144 ≤ s.line.toNat := by unfold rasterPos; omega
  rw [e2]
  unfold mode modeAt lineVblank
  by_cases c1 : (144 : BitVec 8) ≤ s.line
  · have : 144 ≤ s.line.toNat := c1
    rw [if_pos c1]
    simp [this]
  · have : ¬ 144 ≤ s.line.toNat := c1
    rw [if_neg c1]
    simp only [this]
    split_ifs <;> simp

/-- The tick that enters line 144 is the one that leaves position 65664 (R122, R125). -/
theorem entersVblank_iff_rasterPos {s : State} (h : RasterInRange s) :
    EntersVblank s ↔ rasterPos (videoTick s) = 65664 := by
  obtain ⟨h1, h2⟩ := rasterInRange_iff.1 h
  rw [(videoTick_rasterPos h).2]
  unfold EntersVblank colLast lineLast lineVblank rasterPos
  constructor
  · rintro ⟨a, b, c⟩
    have a' : ¬ s.col.toNat < 455 := a
    have c' : s.line.toNat = 143 := by bv_omega
    omega
  · intro h
    have : s.line.toNat = 143 ∧ s.col.toNat = 455 := by omega
    refine ⟨?_, ?_, ?_⟩ <;> bv_omega

end Sys2Proof.Machine
end

