-- ==== Sys2Proof/Tests/Slice0.lean ====
section
/-! SUPPORT. Small tests on fixed values. The expected results come from 95_test_vectors.md (named `V-…` or by section)
or from the example at the end of the rule cited. Every test is one command from a small state; command words are
written in hexadecimal from R91: `op[26:24]`, `addr[23:8]`, `data[7:0]`. -/

namespace Sys2Proof.Tests

open Sys2Proof.Machine

/-! ### Small states -/

/-- The power-on state moved to a raster position. -/
def posAt (l : BitVec 8) (c : BitVec 9) : State := { State.reset with line := l, col := c }

/-- A state in vertical blank, where every window is open. -/
def vblank : State := posAt 144 0

/-- Nothing pressed. -/
def released : Pad :=
  { right := false, left := false, up := false, down := false, a := false, b := false, select := false, start := false }

/-- A timer with four different register values and its latch set. -/
def someTimer : Timer := { div := 0x01, counter := 0x12, modulo := 0x34, config := 0x05, latch := true, hidden := 0 }

/-- Ten different register values. -/
def someRegs : VideoRegs :=
  { ctrl := 0x91, stat := 0xff, scy := 0x11, scx := 0x22, lyc := 0x0a, pal0 := 0xe4, pal1 := 0xd2, pal2 := 0x1b
    wy := 0x88, wx := 0x07 }

/-- The state a command word leaves. -/
def after (cw : CommandWord) (s : State) : State :=
  match exec (decode cw) s with
  | .next t => t
  | .fault _ => s
  | .refused _ => s

/-- The response word to a command word. -/
def answer (cw : CommandWord) (s : State) : Option ResponseWord :=
  match exec (decode cw) s with
  | .next t => some (Response.word t.response)
  | .fault _ => none
  | .refused _ => none

/-! ### Well-formedness: one ill-formed operation for each window -/

theorem test_ill_formed_fetch :
    [Instr.fetchRom 0x8000, .fetchVram 0x7fff, .fetchCram 0x9fff, .fetchWram 0xe000, .fetchEcho 0xfe00, .fetchOam 0xfea0,
      .fetchZram 0xffff, .fetchIoShadow 0xff00, .fetchUnmapped 0xff4b].all (fun i => !i.wellFormed) = true := by decide

theorem test_ill_formed_store :
    [Instr.storeRom 0x8000 1, .storeVram 0xa000 1, .storeCram 0xc000 1, .storeWram 0xbfff 1, .storeEcho 0xdfff 1,
      .storeOam 0xfdff 1, .storeZram 0xff7f 1, .storeIoShadow 0xff40 1, .storeUnmapped 0xff80 1].all
      (fun i => !i.wellFormed) = true := by decide

/-! ### Decoding: a word for every constructor (R91, R92, R95, R230; 3.5, 3.6, 3.8) -/

theorem test_decode_commands_without_address :
    decode 0x0abcdef = .step ∧ decode 0x3ffffff = .irqPeek ∧ decode 0x4123456 = .irqAck ∧ decode 0x5ffffff = .reset ∧
      decode 0x6ffffff = .reserved6 ∧ decode 0x7000000 = .reserved7 := by decide

theorem test_decode_fetch_windows :
    decode 0x17fff00 = .fetchRom 0x7fff ∧ decode 0x1800000 = .fetchVram 0x8000 ∧ decode 0x1bfff00 = .fetchCram 0xbfff ∧
      decode 0x1c00000 = .fetchWram 0xc000 ∧ decode 0x1dfff00 = .fetchWram 0xdfff ∧ decode 0x1e00000 = .fetchEcho 0xe000 ∧
      decode 0x1fe9f00 = .fetchOam 0xfe9f ∧ decode 0x1ff8000 = .fetchZram 0xff80 ∧ decode 0x1feff00 = .fetchUnmapped 0xfeff ∧
      decode 0x1ff4c00 = .fetchUnmapped 0xff4c ∧ decode 0x1ff3f00 = .fetchIoShadow 0xff3f ∧ decode 0x1ffff00 = .fetchIe := by
  decide

theorem test_decode_store_windows :
    decode 0x2000012 = .storeRom 0x0000 0x12 ∧ decode 0x29fff77 = .storeVram 0x9fff 0x77 ∧
      decode 0x2a00021 = .storeCram 0xa000 0x21 ∧ decode 0x2de0004 = .storeWram 0xde00 0x04 ∧
      decode 0x2fdff03 = .storeEcho 0xfdff 0x03 ∧ decode 0x2fe0005 = .storeOam 0xfe00 0x05 ∧
      decode 0x2fffeaa = .storeZram 0xfffe 0xaa ∧ decode 0x2fea007 = .storeUnmapped 0xfea0 0x07 ∧
      decode 0x2ff0141 = .storeIoShadow 0xff01 0x41 ∧ decode 0x2ffffa5 = .storeIe 0xa5 := by decide

theorem test_decode_fetch_registers :
    decode 0x1ff0000 = .fetchP1 ∧ decode 0x1ff0400 = .fetchDiv ∧ decode 0x1ff0500 = .fetchTima ∧ decode 0x1ff0600 = .fetchTma ∧
      decode 0x1ff0700 = .fetchTac ∧ decode 0x1ff0f00 = .fetchIf ∧ decode 0x1ff4000 = .fetchCtrl ∧
      decode 0x1ff4100 = .fetchStat ∧ decode 0x1ff4200 = .fetchScy ∧ decode 0x1ff4300 = .fetchScx ∧
      decode 0x1ff4400 = .fetchLy ∧ decode 0x1ff4500 = .fetchLyc ∧ decode 0x1ff4600 = .fetchDma ∧
      decode 0x1ff4700 = .fetchPal0 ∧ decode 0x1ff4800 = .fetchPal1 ∧ decode 0x1ff4900 = .fetchPal2 ∧
      decode 0x1ff4a00 = .fetchWy ∧ decode 0x1ff4b00 = .fetchWx := by decide

theorem test_decode_store_registers :
    decode 0x2ff00cf = .storeP1 0xcf ∧ decode 0x2ff0499 = .storeDiv 0x99 ∧ decode 0x2ff0512 = .storeTima 0x12 ∧
      decode 0x2ff0634 = .storeTma 0x34 ∧ decode 0x2ff0705 = .storeTac 0x05 ∧ decode 0x2ff0ffd = .storeIf 0xfd ∧
      decode 0x2ff4091 = .storeCtrl 0x91 ∧ decode 0x2ff41ff = .storeStat 0xff ∧ decode 0x2ff4211 = .storeScy 0x11 ∧
      decode 0x2ff4322 = .storeScx 0x22 ∧ decode 0x2ff4463 = .storeLy 0x63 ∧ decode 0x2ff450a = .storeLyc 0x0a ∧
      decode 0x2ff46c1 = .storeDma 0xc1 ∧ decode 0x2ff47e4 = .storePal0 0xe4 ∧ decode 0x2ff48d2 = .storePal1 0xd2 ∧
      decode 0x2ff491b = .storePal2 0x1b ∧ decode 0x2ff4a88 = .storeWy 0x88 ∧ decode 0x2ff4b07 = .storeWx 0x07 := by decide

theorem test_encode_words :
    encode (.storeEcho 0xfdff 0x03) = 0x2fdff03 ∧ encode (.storeDma 0xc1) = 0x2ff46c1 ∧ encode .fetchIf = 0x1ff0f00 ∧
      encode .irqAck = 0x4000000 := by decide

theorem test_decode_rejects_a_28th_bit :
    decodeBits 0x8000000 = .error .widerThanCommandWord ∧ decodeTableWord 32 0x5000000 = some .reset := by decide

/-! ### The commands without an address -/

/-- V-T1, V-T2: the column wraps at 455; entering line 144 answers `flip`. -/
theorem test_step_wraps_and_flips :
    (after 0x0000000 (posAt 5 455)).line = 6 ∧ (after 0x0000000 (posAt 5 455)).col = 0 ∧
      (after 0x0000000 (posAt 5 454)).col = 455 ∧ answer 0x0000000 (posAt 143 455) = some 0x04000 ∧
      (after 0x0000000 (posAt 143 455)).itVblank = true ∧ answer 0x0000000 (posAt 144 455) = some 0x00000 := by decide

/-- V-T3, V-T6: the line after 154 is 0, and its compare with `lyc = 0` latches; the compare at reset does not. -/
theorem test_step_quirk_line_and_compare :
    (after 0x0000000 (posAt 153 455)).line = 154 ∧ (after 0x0000000 (posAt 154 455)).line = 0 ∧
      (after 0x0000000 (posAt 154 455)).itLcd = true ∧ (after 0x0000000 (posAt 0 0)).itLcd = false := by decide

/-- 42_interrupt_arbiter R173 example and V-P5: vblank is reported before timer and alone acknowledged. -/
theorem test_irq_ack :
    (let s := { vblank with itVblank := true, timer := someTimer, ie := ⟨true, false, true, false, false⟩ }
     answer 0x4000000 s = some 0x01000 ∧ (after 0x4000000 s).itVblank = false ∧
       (after 0x4000000 s).timer.latch = true) := by decide

/-- R172 example: `it_vblank = it_lcd = 1`, enables `0b00010`: `lcd`, and nothing is cleared. V-P5 row 0xff/0x18: none. -/
theorem test_irq_peek :
    (let s := { vblank with itVblank := true, itLcd := true, ie := ⟨false, true, false, false, false⟩ }
     answer 0x3000000 s = some 0x01200 ∧ (after 0x3000000 s).itLcd = true ∧
       answer 0x3000000 { s with ie := ⟨false, false, false, true, true⟩ } = some 0x00000) := by decide

/-- 3.7, V-D9: `RESET` from the middle of a transfer; `flips` stays. -/
theorem test_reset :
    (let t := after 0x5000000 { posAt 144 3 with dmaIdx := 4, dmaSrc := 0xc004, flips := 7, wram := [(1, 2)] }
     t.line = 0 ∧ t.col = 0 ∧ t.dmaIdx = 160 ∧ t.dmaSrc = 0 ∧ t.wram = [] ∧ t.flips = 7) := by decide

/-- 3.8: the reserved codes answer `0x10000`; after a fault every word answers `0x18000`. -/
theorem test_refusals :
    answer 0x6000000 State.reset = some 0x10000 ∧ answer 0x7ffffff State.reset = some 0x10000 ∧
      answer 0x5000000 { State.reset with fault := true } = some 0x18000 ∧
      answer 0x7000000 { State.reset with fault := true } = some 0x18000 := by decide

/-! ### The windows -/

/-- R193, R194: the cartridge decides. -/
theorem test_rom :
    (after 0x17fff00 vblank).response.rdata = Config.cartRomByte vblank.cart 0x7fff ∧
      (after 0x2200001 vblank).cart = Config.cartSetRomByte vblank.cart 0x2000 0x01 := ⟨rfl, rfl⟩

/-- R197, R198. -/
theorem test_cram :
    (after 0x1a01000 vblank).response.rdata = Config.cartRamByte vblank.cart 0x10 ∧
      (after 0x2bfff09 vblank).cart = Config.cartSetRamByte vblank.cart 0x1fff 0x09 := ⟨rfl, rfl⟩

/-- R195, R199 examples, and 3.5: plain in HBlank and Prelude. -/
theorem test_vram :
    answer 0x1800000 { posAt 0 200 with vram := [(0, 0x3c)] } = some 0x0003c ∧
      (after 0x29fff77 vblank).vram = [(8191, 0x77)] ∧ (after 0x2800055 (posAt 0 79)).vram = [(0, 0x55)] := by decide

/-- 3.5, Active mode: no fault, and one more draw. -/
theorem test_vram_active :
    (after 0x1800000 (posAt 0 100)).draws = 1 ∧ (after 0x2800055 (posAt 0 100)).fault = false ∧
      (after 0x2800055 (posAt 0 172)).draws = 1 ∧ (after 0x2800055 (posAt 0 173)).draws = 0 := by decide

/-- R201, R202 examples. -/
theorem test_wram :
    answer 0x1c12300 { vblank with wram := [(0x123, 0x45)] } = some 0x00045 ∧
      (after 0x2dfff01 vblank).wram = [(8191, 1)] ∧ (after 0x2c00000 { vblank with wram := [(0, 1)] }).wram = [] := by decide

/-- R203, R204 examples. -/
theorem test_echo :
    answer 0x1e12300 { vblank with wram := [(0x123, 0x45)] } = some 0x00045 ∧
      (after 0x2fdff02 vblank).wram = [(0x1dff, 2)] := by decide

/-- The published boundaries of the four modes (V-P3, R127). -/
theorem test_modes :
    mode (posAt 0 0) = .prelude ∧ mode (posAt 143 79) = .prelude ∧ mode (posAt 0 80) = .active ∧
      mode (posAt 143 172) = .active ∧ mode (posAt 0 173) = .hblank ∧ mode (posAt 143 455) = .hblank ∧
      mode (posAt 144 0) = .vblank ∧ mode (posAt 154 455) = .vblank := by decide

/-- V-P4: the gate at its boundary columns and lines. -/
theorem test_oam_fetch :
    (let s := { vblank with oam := Vector.replicate 160 0xa5 }
     answer 0x1fe0000 { s with line := 0, col := 172 } = some 0x08000 ∧
       answer 0x1fe0000 { s with line := 0, col := 173 } = some 0x000a5 ∧
       answer 0x1fe9f00 { s with line := 143, col := 79 } = some 0x08000 ∧
       answer 0x1fe9f00 { s with line := 154, col := 79 } = some 0x000a5) := by decide

/-- V-P4: the store at the last index, and the locked store. -/
theorem test_oam_store :
    (after 0x2fe9f11 (posAt 20 300)).oam[159] = 0x11 ∧ answer 0x2fe9f11 (posAt 0 80) = some 0x08000 ∧
      (after 0x2fe9f11 { posAt 0 80 with oam := Vector.replicate 160 0xa5 }).oam[159] = 0xa5 ∧
      (after 0x2fe9f11 (posAt 0 80)).fault = true := by decide

/-- R209, R210 examples: `zram[126]` is the last byte. -/
theorem test_zram :
    answer 0x1fffe00 { vblank with zram := [(126, 0xaa)] } = some 0x000aa ∧
      (after 0x2fffeaa vblank).zram = [(126, 0xaa)] := by decide

/-- R212, R213, 3.5: 0 with the diagnostic, and no effect. -/
theorem test_unmapped :
    answer 0x1fea000 vblank = some 0x02000 ∧ answer 0x2ff4c08 vblank = some 0x02000 ∧
      (after 0x2ff7fff vblank).response.diag = some ⟨.write, 0xff7f⟩ ∧ (after 0x2ff4c08 vblank).ioShadow = [] := by decide

/-! ### The I/O window (3.6) -/

/-- R270, R271. -/
theorem test_io_shadow :
    answer 0x1ff0100 { vblank with ioShadow := [(1, 0x41)] } = some 0x00041 ∧
      (after 0x2ff3ff0 vblank).ioShadow = [(0x3f, 0xf0)] := by decide

/-- R232: `left` and `a` pressed; both groups, one group, none. -/
theorem test_p1_fetch :
    (let p := { released with left := true, a := true }
     answer 0x1ff0000 { vblank with pad := p } = some 0x0000f ∧
       answer 0x1ff0000 { vblank with pad := p, ioShadow := [(0, 0x20)] } = some 0x0000d ∧
       answer 0x1ff0000 { vblank with pad := p, ioShadow := [(0, 0x10)] } = some 0x0000e ∧
       answer 0x1ff0000 { vblank with pad := p, ioShadow := [(0, 0x30)] } = some 0x00000) := by decide

/-- R233. -/
theorem test_p1_store :
    (after 0x2ff00cf vblank).ioShadow = [(0, 0xcf)] ∧ (after 0x2ff00cf vblank).pad = Config.freePad 0 := ⟨by decide, rfl⟩

/-- R236, R238, R240, R242. -/
theorem test_timer_fetch :
    (let s := { vblank with timer := someTimer }
     answer 0x1ff0400 s = some 0x00001 ∧ answer 0x1ff0500 s = some 0x00012 ∧ answer 0x1ff0600 s = some 0x00034 ∧
       answer 0x1ff0700 s = some 0x00005) := by decide

/-- R237, R239, R241, R243. -/
theorem test_timer_store :
    (after 0x2ff0499 vblank).timer = Config.timerResetDiv vblank.timer ∧
      (after 0x2ff0512 vblank).timer = Config.timerSetCounter vblank.timer 0x12 ∧
      (after 0x2ff0634 vblank).timer = Config.timerSetModulo vblank.timer 0x34 ∧
      (after 0x2ff0705 vblank).timer = Config.timerSetConfig vblank.timer 0x05 := ⟨rfl, rfl, rfl, rfl⟩

/-- R246, R247: `STORE IF, 0xfd` makes vblank and timer latched, lcd not. -/
theorem test_if :
    (let s := { vblank with timer := { someTimer with latch := false }, itLcd := true }
     answer 0x1ff0f00 s = some 0x00002 ∧ (after 0x2ff0ffd s).itVblank = true ∧ (after 0x2ff0ffd s).itLcd = false ∧
       (after 0x2ff0ffd s).timer.latch = true) := by decide

/-- R250 to R275: each register answers its own value. -/
theorem test_video_registers_fetch :
    (let s := { vblank with vregs := someRegs }
     answer 0x1ff4000 s = some 0x91 ∧ answer 0x1ff4100 s = some 0xff ∧ answer 0x1ff4200 s = some 0x11 ∧
       answer 0x1ff4300 s = some 0x22 ∧ answer 0x1ff4500 s = some 0x0a ∧ answer 0x1ff4700 s = some 0xe4 ∧
       answer 0x1ff4800 s = some 0xd2 ∧ answer 0x1ff4900 s = some 0x1b ∧ answer 0x1ff4a00 s = some 0x88 ∧
       answer 0x1ff4b00 s = some 0x07) := by decide

/-- R251 to R275: each store reaches its own register. -/
theorem test_video_registers_store :
    (after 0x2ff4091 vblank).vregs.ctrl = 0x91 ∧ (after 0x2ff41ff vblank).vregs.stat = 0xff ∧
      (after 0x2ff4211 vblank).vregs.scy = 0x11 ∧ (after 0x2ff4322 vblank).vregs.scx = 0x22 ∧
      (after 0x2ff450a vblank).vregs.lyc = 0x0a ∧ (after 0x2ff47e4 vblank).vregs.pal0 = 0xe4 ∧
      (after 0x2ff48d2 vblank).vregs.pal1 = 0xd2 ∧ (after 0x2ff491b vblank).vregs.pal2 = 0x1b ∧
      (after 0x2ff4a88 vblank).vregs.wy = 0x88 ∧ (after 0x2ff4b07 vblank).vregs.wx = 0x07 := by decide

/-- R254, R255, and R257: a store to `LYC` that equals `line` latches nothing. -/
theorem test_ly :
    answer 0x1ff4400 (posAt 10 200) = some 0x0000a ∧ (after 0x2ff4463 (posAt 10 200)).line = 10 ∧
      (after 0x2ff450a (posAt 10 200)).itLcd = false := by decide

/-- R258 and R150 example: in VBlank with `wram[0] = 0x5a`. -/
theorem test_dma :
    answer 0x1ff4600 { vblank with dmaSrc := 0xc1a0 } = some 0x000c1 ∧
      (let t := after 0x2ff46c0 { vblank with wram := [(0, 0x5a)] }
       t.oam[0] = 0x5a ∧ t.dmaSrc = 0xc001 ∧ t.dmaIdx = 1) := by decide

/-- V-D1, V-D3: a trigger at the reset position faults; so does the last step of a transfer one column too late. -/
theorem test_dma_faults :
    answer 0x2ff46c0 State.reset = some 0x08000 ∧ (after 0x2ff46c0 State.reset).dmaIdx = 0 ∧
      (after 0x2ff46c0 State.reset).dmaSrc = 0xc000 ∧
      answer 0x0000000 { posAt 0 455 with dmaSrc := 0xc09f, dmaIdx := 159 } = some 0x08000 ∧
      (after 0x0000000 { posAt 0 455 with dmaSrc := 0xc09f, dmaIdx := 159 }).dmaIdx = 159 := by decide

/-- R151 example, and V-D6: a step from the hole answers the diagnostic. -/
theorem test_dma_step :
    (after 0x0000000 { posAt 0 300 with dmaSrc := 0xc010, dmaIdx := 16, wram := [(0x10, 7)] }).oam[16] = 7 ∧
      answer 0x0000000 { vblank with dmaSrc := 0xff4c, dmaIdx := 76 } = some 0x02000 := by decide

/-- V-P6, R281 example. -/
theorem test_ie :
    answer 0x1ffff00 { vblank with ie := ⟨true, false, true, false, false⟩ } = some 0x00005 ∧
      (after 0x2ffffa5 vblank).ie = ⟨true, false, true, false, false⟩ ∧
      (after 0x2ffff18 vblank).ie = ⟨false, false, false, true, true⟩ := by decide

/-! ### The pseudo-commands (R104) -/

/-- What a pseudo-command answers, as response words. -/
def answers (c : PseudoCommand) (s : State) : Option (List ResponseWord) :=
  (runPseudo c s).map fun r => r.2.map Response.word

/-- V-T1, V-T3 and R104: one `FETCH` after each `STEP`, until the line is the one waited for. -/
theorem test_waitline :
    answers (.waitLine 6) (posAt 5 454) = some [0x00000, 0x00005, 0x00000, 0x00006] ∧
      answers (.waitLine 0) (posAt 154 455) = some [0x00000, 0x00000] ∧
      answers (.waitLine 144) (posAt 143 455) = some [0x04000, 0x00090] := by decide

/-- V-P5, row 0x07/0x1f: three sources and then none. -/
theorem test_ackall :
    answers .ackAll { vblank with
      itVblank := true, itLcd := true, timer := someTimer, ie := ⟨true, true, true, true, true⟩ } =
      some [0x01000, 0x01200, 0x01400, 0x00000] := by decide

/-- R104: `STEPN`, `DMA` and `EI`; V-T2 and V-D1 for their responses. -/
theorem test_stepn_dma_ei :
    answers (.stepN 2) (posAt 143 454) = some [0x00000, 0x04000] ∧ answers (.dma 0xc0) State.reset = some [0x08000] ∧
      (runPseudo (.ei 0x15) vblank).map (fun r => r.1.ie) = some ⟨true, false, true, false, true⟩ := by decide

/-! ### The step -/

/-- R90: the presented word runs and leaves the port. -/
theorem test_step_runs_the_presented_word :
    ∃ t, step (State.reset.withFetchWord 32 0x2ff450a) = .next t ∧ t.vregs.lyc = 0x0a ∧ t.pending = [] := ⟨_, rfl, rfl, rfl⟩

end Sys2Proof.Tests
end

