-- ==== Sys2Proof/Tests/Witness0.lean ====
section
/-! SUPPORT. For every statement with hypotheses, a concrete state and operands that meet all of them, at the boundary
values of each clause. The name after `witness_` is the statement's. -/

namespace Sys2Proof.Tests

open Sys2Proof.Machine

/-- The first and the last position of each clause. -/
theorem witness_ModeFollowsThePosition :
    144 ≤ (posAt 144 0).line ∧ 144 ≤ (posAt 154 455).line ∧ (posAt 143 79).line ≤ 143 ∧ (posAt 143 79).col ≤ 79 ∧
      80 ≤ (posAt 0 80).col ∧ (posAt 143 172).col ≤ 172 ∧ 173 ≤ (posAt 143 173).col ∧
      (posAt 143 79).line = ({ posAt 143 79 with draws := 1 } : State).line := by decide

/-- The first and the last address of every window and hole. -/
theorem witness_windows :
    Target.rom.covers 0x0000 ∧ Target.rom.covers 0x7fff ∧ Target.vram.covers 0x8000 ∧ Target.vram.covers 0x9fff ∧
      Target.cram.covers 0xa000 ∧ Target.cram.covers 0xbfff ∧ Target.wram.covers 0xc000 ∧ Target.wram.covers 0xdfff ∧
      Target.echo.covers 0xe000 ∧ Target.echo.covers 0xfdff ∧ Target.oam.covers 0xfe00 ∧ Target.oam.covers 0xfe9f ∧
      Target.unmapped.covers 0xfea0 ∧ Target.unmapped.covers 0xfeff ∧ Target.unmapped.covers 0xff4c ∧
      Target.unmapped.covers 0xff7f ∧ Target.ioShadow.covers 0xff01 ∧ Target.ioShadow.covers 0xff3f ∧
      Target.zram.covers 0xff80 ∧ Target.zram.covers 0xfffe := by decide

/-- No address falls in two clauses of one statement: at each border one window ends and the next begins. -/
theorem witness_windows_end :
    Target.wram.covers 0xe000 = false ∧ Target.echo.covers 0xdfff = false ∧ Target.echo.covers 0xfe00 = false ∧
      Target.oam.covers 0xfea0 = false ∧ Target.unmapped.covers 0xfe9f = false ∧ Target.unmapped.covers 0xff4b = false ∧
      Target.zram.covers 0xff7f = false ∧ Target.zram.covers 0xffff = false := by decide

theorem witness_StepExecutesThePresentedCommand :
    (State.reset.withFetchWord 32 0x6000000).pending = 0x6000000 :: [] ∧ State.reset.pending = [] := ⟨rfl, rfl⟩

theorem witness_DecodeInvertsEncode :
    (Instr.fetchRom 0x7fff).wellFormed = true ∧ (Instr.storeUnmapped 0xff4c 0xff).wellFormed = true ∧
      (Instr.storeWx 0xff).wellFormed = true ∧ Instr.reserved7.wellFormed = true := by decide

theorem witness_UnusedFieldsDoNotMatter :
    CommandWord.op 0x0abcdef = CommandWord.op 0x0000000 ∧
      (CommandWord.op 0x1c000ff = CommandWord.op 0x1c00000 ∧ CommandWord.addr 0x1c000ff = CommandWord.addr 0x1c00000) := by
  decide

theorem witness_ResponseWordFields :
    (irqResponse (some .lcd)).irq = some .lcd ∧ Response.quiet.irq = none := ⟨rfl, rfl⟩

/-- A state in the middle of a transfer, with bytes in its stores and a command presented. -/
def busy : State :=
  { posAt 150 455 with
    dmaSrc := 0xc1a0 - 1, dmaIdx := 159, vram := [(0, 1), (8191, 2)], wram := [(8191, 3)], zram := [(126, 4)]
    ioShadow := [(75, 5)], pending := [0x0000000] }

theorem witness_EveryStepKeepsTheInvariant : Inv busy ∧ ∃ t, step busy = .next t := ⟨by decide, _, rfl⟩

theorem witness_FaultedBlockRefusesEveryCommand :
    Instr.reset.wellFormed = true ∧ (Instr.fetchOam 0xfe9f).wellFormed = true ∧
      ({ State.reset with fault := true } : State).fault = true := by decide

theorem witness_EveryCommandIsAnswered : (Instr.storeZram 0xfffe 0xff).wellFormed = true := by decide

/-- Each field is asserted by a command of each kind the statement names. -/
theorem witness_ResponseFieldsBelongToTheirCommands :
    answer 0x7000000 vblank = some 0x10000 ∧ answer 0x0000000 (posAt 143 455) = some 0x04000 ∧
      answer 0x3000000 { vblank with itVblank := true, ie := ⟨true, true, true, true, true⟩ } = some 0x01000 ∧
      answer 0x4000000 { vblank with itLcd := true, ie := ⟨true, true, true, true, true⟩ } = some 0x01200 ∧
      answer 0x1feff00 vblank = some 0x02000 ∧ answer 0x2ff4c00 vblank = some 0x02000 ∧
      answer 0x0000000 { vblank with dmaSrc := 0xff7f, dmaIdx := 127 } = some 0x02000 ∧
      answer 0x1fe0000 State.reset = some 0x08000 ∧ answer 0x1ff4400 (posAt 154 0) = some 0x0009a := by decide

theorem witness_AddressOutsideWindowStops :
    (Instr.storeRom 0x8000 1).wellFormed = false ∧ (Instr.fetchUnmapped 0xff4b).wellFormed = false := by decide

theorem witness_RomWindowReachesTheCartridge :
    vblank.fault = false ∧ Target.rom.covers 0x0000 = true ∧ Target.rom.covers 0x7fff = true := by decide

theorem witness_CartridgeRamWindowReachesTheCartridge :
    vblank.fault = false ∧ Target.cram.covers 0xa000 = true ∧ Target.cram.covers 0xbfff = true := by decide

theorem witness_RamWindowsFetchTheStoredByte :
    busy.fault = false ∧ Target.wram.covers 0xdfff = true ∧ Target.echo.covers 0xfdff = true ∧
      Target.zram.covers 0xfffe = true := by decide

theorem witness_RamWindowsStoreOneByte :
    busy.fault = false ∧ Target.wram.covers 0xc000 = true ∧ Target.echo.covers 0xe000 = true ∧
      Target.zram.covers 0xff80 = true := by decide

theorem witness_EchoAliasesInternalRam :
    busy.fault = false ∧ inRange 0xc000 0xddff 0xc000 = true ∧ inRange 0xc000 0xddff 0xddff = true := by decide

theorem witness_VideoMemoryIsPlainOutsideActive :
    (posAt 143 79).fault = false ∧ Target.vram.covers 0x8000 = true ∧ (posAt 143 79).col ≤ 79 ∧
      173 ≤ (posAt 143 173).col ∧ 144 ≤ (posAt 144 80).line := by decide

theorem witness_VideoMemoryInActiveIsADraw :
    (posAt 0 80).fault = false ∧ Target.vram.covers 0x9fff = true ∧ (posAt 0 80).line ≤ 143 ∧ 80 ≤ (posAt 0 80).col ∧
      (posAt 0 80).col ≤ 172 ∧ (posAt 143 172).line ≤ 143 ∧ (posAt 143 172).col ≤ 172 := by decide

theorem witness_OamWindowIsGated :
    (posAt 0 0).fault = false ∧ Target.oam.covers 0xfe00 = true ∧ Target.oam.covers 0xfe9f = true ∧
      173 ≤ (posAt 0 173).col ∧ 144 ≤ (posAt 144 0).line ∧ (posAt 143 172).line ≤ 143 ∧
      (posAt 143 172).col ≤ 172 := by decide

theorem witness_HolesReadZeroAndIgnoreWrites :
    vblank.fault = false ∧ Target.unmapped.covers 0xfea0 = true ∧ Target.unmapped.covers 0xff7f = true := by decide

/-- The statements about the registers of the I/O window, `STEP`, `RESET` and the arbiter ask only this. -/
theorem witness_not_faulted : State.reset.fault = false ∧ busy.fault = false ∧ (posAt 255 511).fault = false := by decide

theorem witness_VideoRegistersFetch : vblank.fault = false := rfl

theorem witness_VideoRegistersStore : vblank.fault = false := rfl

theorem witness_CurrentLineIsReadOnly : (posAt 154 455).fault = false := rfl

/-- Every selection of nibbles, by the shadow byte: both, direction, action, none. -/
theorem witness_InputMatrixSynthesizesTheSelectedNibbles :
    vblank.fault = false ∧ Memory.byte vblank.ioShadow 0 = 0x00 ∧ Memory.byte [(0, 0x20)] 0 = 0x20 ∧
      Memory.byte [(0, 0x10)] 0 = 0x10 ∧ Memory.byte [(0, 0x30)] 0 = 0x30 := by decide

theorem witness_TimerRegistersReachTheTimer : ({ vblank with timer := someTimer } : State).fault = false := rfl

theorem witness_InterruptFlagRegisterShowsAndForcesTheLatches :
    ({ vblank with timer := someTimer } : State).fault = false := rfl

theorem witness_InterruptEnableRoundTrip : vblank.fault = false := rfl

theorem witness_ShadowOffsetsArePlainStorage :
    vblank.fault = false ∧ Target.ioShadow.covers 0xff01 = true ∧ Target.ioShadow.covers 0xff08 = true ∧
      Target.ioShadow.covers 0xff0e = true ∧ Target.ioShadow.covers 0xff3f = true := by decide

/-- From vertical blank a trigger, alone and with a tick after it, leaves no fault. -/
theorem witness_DmaRegisterReadsTheSourcePage :
    vblank.fault = false ∧ (∃ t, dmaThenSteps 0xc1 0 vblank = .next t ∧ t.fault = false) ∧
      ∃ t, dmaThenSteps 0xff 1 vblank = .next t ∧ t.fault = false := ⟨rfl, ⟨_, rfl, rfl⟩, _, rfl, rfl⟩

/-- A read that gives a byte, and one that faults. -/
theorem witness_FetchIsTheDmaSourceRead :
    vblank.fault = false ∧ (∃ b t, busRead 0xfe00 { vblank with response := Response.quiet } = .ok b t) ∧
      ∃ t, busRead 0xfe00 { State.reset with response := Response.quiet } = .stopped t := ⟨rfl, ⟨_, _, rfl⟩, _, rfl⟩

/-- The index on both sides of 160, in open and in locked modes, with a source in the OAM window and one outside. -/
theorem witness_DmaStepMovesOneByte :
    160 ≤ State.reset.dmaIdx ∧ busy.dmaIdx < 160 ∧ mode busy = .vblank ∧ mode { busy with line := 0 } = .hblank ∧
      mode { busy with line := 0, col := 79 } = .prelude ∧ mode { busy with line := 0, col := 172 } = .active ∧
      Target.oam.covers 0xfe9f = true ∧ Target.oam.covers busy.dmaSrc = false := by decide

theorem witness_DmaTriggerStartsAndMovesTheFirstByte :
    vblank.fault = false ∧ mode vblank = .vblank ∧ mode (posAt 0 173) = .hblank ∧ mode State.reset = .prelude ∧
      mode (posAt 0 80) = .active := by decide

/-- Every branch of the tick: inside a line, the next line, line 144, line 154, and a line equal to `lyc`. -/
theorem witness_TickAdvancesTheRaster :
    State.reset.fault = false ∧ 160 ≤ State.reset.dmaIdx ∧ (posAt 0 454).col < 455 ∧ ¬ (posAt 143 455).col < 455 ∧
      (posAt 143 455).line + 1 = 144 ∧ ¬ (posAt 154 455).line < 154 ∧ (posAt 154 455).vregs.lyc = 0 := by decide

/-- A tick whose DMA step goes through, and one whose DMA step faults. -/
theorem witness_StepIsVideoThenDmaThenTimer :
    busy.fault = false ∧ (∃ t, dmaStep (videoTick { busy with response := Response.quiet }) = .ok () t) ∧
      ∃ t, dmaStep (videoTick { busy with line := 0, col := 100, response := Response.quiet }) = .stopped t :=
  ⟨rfl, ⟨_, rfl⟩, _, rfl⟩

/-- The last byte of a transfer, in vertical blank and in the first open column of a line. -/
theorem witness_TickMovesOneTransferByte :
    busy.fault = false ∧ busy.dmaIdx < 160 ∧ mode (videoTick busy) = .vblank ∧
      mode (videoTick { busy with line := 0, col := 172 }) = .hblank := by decide

theorem witness_FaultingDmaStepLeavesTheTransfer :
    busy.fault = false ∧ busy.dmaIdx < 160 ∧ mode (videoTick { busy with line := 142 }) = .prelude ∧
      mode (videoTick { busy with line := 0, col := 79 }) = .active := by decide

/-- The tick that flips, and one that does not. -/
theorem witness_FlipExactlyOnEnteringLine144 :
    (∃ t, exec .step (posAt 143 455) = .next t ∧ t.response.flip = true) ∧
      ∃ t, exec .step (posAt 143 454) = .next t ∧ t.response.flip = false := ⟨⟨_, rfl, rfl⟩, _, rfl, rfl⟩

theorem witness_PeekReturnsTheFirstPendingSource : vblank.fault = false := rfl

/-- A state in which the acknowledge has a source to return, and one in which it has none. -/
theorem witness_AcknowledgeClearsTheReturnedLatch :
    (let s := { vblank with timer := someTimer, ie := ⟨true, true, true, false, false⟩ }
     s.fault = false ∧ select s = some .timer) ∧ vblank.fault = false ∧ select vblank = none := by decide

/-- All three sources pending and enabled. -/
theorem witness_SuccessiveAcknowledgesReturnAllInOrder :
    (let s := { vblank with itVblank := true, itLcd := true, timer := someTimer, ie := ⟨true, true, true, false, false⟩ }
     s.fault = false ∧ (s.ie.vblank && s.itVblank) = true ∧ (s.ie.lcd && s.itLcd) = true ∧
       (s.ie.timer && s.timer.latch) = true) := by decide

theorem witness_ResetRestoresThePowerOnState : busy.fault = false := rfl

theorem witness_OnlyTicksAndResetMoveThePosition :
    ∃ t, exec (.storeLy 0x63) vblank = .next t ∧ Instr.storeLy 0x63 ≠ .step ∧ Instr.storeLy 0x63 ≠ .reset :=
  ⟨_, rfl, by decide, by decide⟩

theorem witness_OnlyEnableStoreAndResetWriteEnables :
    (∃ t, exec (.storeIe 0x1f) vblank = .next t ∧ t.ie ≠ vblank.ie) ∧
      ∃ t, exec .reset { vblank with ie := ⟨true, false, false, false, false⟩ } = .next t ∧
        t.ie ≠ ⟨true, false, false, false, false⟩ := ⟨⟨_, rfl, by decide⟩, _, rfl, by decide⟩

/-- Each latch rises and falls. -/
theorem witness_VideoLatchesAreSticky :
    (∃ t, exec .step (posAt 143 455) = .next t ∧ (posAt 143 455).itVblank = false ∧ t.itVblank = true) ∧
      (∃ t, exec .step (posAt 154 455) = .next t ∧ (posAt 154 455).itLcd = false ∧ t.itLcd = true) ∧
      (∃ t, exec .irqAck { vblank with itVblank := true, ie := ⟨true, true, false, false, false⟩ } = .next t ∧
        t.itVblank = false) ∧
      ∃ t, exec (.storeIf 0x00) { vblank with itLcd := true } = .next t ∧ t.itLcd = false :=
  ⟨⟨_, rfl, rfl, rfl⟩, ⟨_, rfl, rfl, rfl⟩, ⟨_, rfl, rfl⟩, _, rfl, rfl⟩

/-- Each of the four operations raises the fault. -/
theorem witness_OnlyLockedOamAccessesFault :
    State.reset.fault = false ∧ (∃ t, exec (.fetchOam 0xfe00) State.reset = .next t ∧ t.fault = true) ∧
      (∃ t, exec (.storeOam 0xfe9f 0) State.reset = .next t ∧ t.fault = true) ∧
      (∃ t, exec (.storeDma 0xc0) State.reset = .next t ∧ t.fault = true) ∧
      ∃ t, exec .step { State.reset with dmaIdx := 0 } = .next t ∧ t.fault = true :=
  ⟨rfl, ⟨_, rfl, rfl⟩, ⟨_, rfl, rfl⟩, ⟨_, rfl, rfl⟩, _, rfl, rfl⟩

/-- A store to OAM in the last open column changes it. -/
theorem witness_LockedOamNeverChanges :
    (let s := { posAt 143 455 with oam := Vector.replicate 160 0xa5 }
     ∃ t, exec (.storeOam 0xfe9f 0x11) s = .next t ∧ t.oam[159] = 0x11 ∧ s.oam[159] = 0xa5) := ⟨_, rfl, by decide, by decide⟩

/-- An address outside the OAM window, and one outside video memory. -/
theorem witness_FetchHasNoSideEffect :
    Target.oam.covers 0xfea0 = false ∧ Target.vram.covers 0xa000 = false ∧ mode vblank = .vblank := by decide

theorem witness_RasterFollowsTheFrameGeometry :
    State.reset.fault = false ∧ 160 ≤ State.reset.dmaIdx ∧ State.reset.line = 0 ∧ State.reset.col = 0 := by decide

/-- The first position of line 144 and the last position of the last line. -/
theorem witness_OamStaysOpenAfterReadingVblankLine :
    RasterInRange vblank ∧ 144 ≤ vblank.line ∧ (∃ t, stepN 1 vblank = .next t) ∧ RasterInRange (posAt 154 455) ∧
      stepN 0 (posAt 154 455) = .next (posAt 154 455) := ⟨by decide, by decide, ⟨_, rfl⟩, by decide, rfl⟩

/-- A corner of each row of the table of R331. -/
theorem witness_DmaTransferTimeline :
    vblank.fault = false ∧ (0xc0 : Byte) ≤ 0xdf ∧
      [(0, 173), (142, 296), (143, 173), (143, 455), (144, 0), (153, 455), (154, 0), (154, 296)].all
        (fun p => decide (DmaSafeStart (BitVec.ofNat 8 p.1) (BitVec.ofNat 9 p.2))) = true := by decide

/-- A safe position and the three nearest unsafe ones. -/
theorem witness_DmaCompletesExactlyFromSafePositions :
    vblank.fault = false ∧ RasterInRange vblank ∧ DmaSafeStart vblank.line vblank.col ∧ RasterInRange (posAt 142 297) ∧
      ¬ DmaSafeStart 142 297 ∧ ¬ DmaSafeStart 154 297 ∧ ¬ DmaSafeStart 143 172 := by decide

/-- The first and the last of two `STEP`s. -/
theorem witness_PseudoCommandsExpandToCommands :
    (∃ u, stepN (0 + 1) (posAt 143 454) = .next u) ∧ ∃ u, stepN (1 + 1) (posAt 143 454) = .next u := ⟨⟨_, rfl⟩, _, rfl⟩

/-- Lines at both ends of the raster, from positions at both ends; and a transfer in progress that faults at once. -/
theorem witness_WaitLineAndAckAllEnd :
    State.reset.fault = false ∧ RasterInRange State.reset ∧ RasterInRange (posAt 154 455) ∧ (0 : Byte) ≤ 154 ∧
      (154 : Byte) ≤ 154 ∧ ({ State.reset with dmaIdx := 0 } : State).dmaIdx < 160 ∧
      (∃ w, stepN 1 { State.reset with dmaIdx := 0 } = .next w ∧ w.fault = true) :=
  ⟨rfl, by decide, by decide, by decide, by decide, by decide, _, rfl, rfl⟩

end Sys2Proof.Tests
end

section
/-! SUPPORT and PROOFS. The frames of the commands, once for all operations, and the statements about what every command
keeps: the invariant of the block, the raster position, the enables and the video latches. -/

namespace Sys2Proof.Machine

/-! ### Frames -/

/-- A write to OAM changes OAM alone (R132). -/
theorem setOamByte_frame (i : Nat) (v : Byte) (s : State) :
    setOamByte i v s = { s with oam := (setOamByte i v s).oam } := by
  unfold setOamByte
  split <;> rfl

/-- An acknowledge changes nothing but the three latches, the timer's inside the timer (R173, R175). -/
theorem ackSelected_frame (r : Option Source) (s : State) :
    ackSelected r s = { s with
      itVblank := (ackSelected r s).itVblank, itLcd := (ackSelected r s).itLcd, timer := (ackSelected r s).timer } := by
  cases r with
  | none => rfl
  | some src => cases src <;> rfl

/-- A `STORE` outside OAM, the DMA register and video memory leaves the position, OAM, video memory, the transfer, the
fault flag, the flips and, but for the diagnostic, the response; the enables change through their register alone (R31,
R281), and the video latches through the interrupt-flag register alone (R29, R247). -/
theorem storeOf_frame {x : Target} {a : Addr} {v : Byte} {s t : State} (hx : x ≠ .oam ∧ x ≠ .dma ∧ x ≠ .vram)
    (h : bodyOf (storeOf x a v) s = .ok 0 t) :
    t = { s with
      vregs := t.vregs, itVblank := t.itVblank, itLcd := t.itLcd, ioShadow := t.ioShadow, ie := t.ie, wram := t.wram
      zram := t.zram, cart := t.cart, timer := t.timer, pad := t.pad, draws := t.draws
      response := { s.response with diag := t.response.diag } } ∧
    (x ≠ .ie → t.ie = s.ie) ∧ (x ≠ .irqFlag → t.itVblank = s.itVblank ∧ t.itLcd = s.itLcd) := by
  obtain ⟨hoam, hdma, hvram⟩ := hx
  cases x
  case oam => exact absurd rfl hoam
  case dma => exact absurd rfl hdma
  case vram => exact absurd rfl hvram
  all_goals cases h
  case ie => exact ⟨rfl, fun hie => absurd rfl hie, fun _ => ⟨rfl, rfl⟩⟩
  case irqFlag => exact ⟨rfl, fun _ => rfl, fun hif => absurd rfl hif⟩
  all_goals exact ⟨rfl, fun _ => rfl, fun _ => ⟨rfl, rfl⟩⟩

/-- What a command changes, in five classes: `STEP`, `IRQ_ACK`, `RESET`, a `STORE` outside OAM, the DMA register and video
memory, and all the rest, which touch OAM, video memory, the transfer, the fault flag, the draws and the response alone. -/
theorem Does.frame {i : Instr} {s t : State} (h : Does s i t) :
    (i = .step ∧ t = { videoTick (beginCommand s) with
      oam := t.oam, dmaSrc := t.dmaSrc, dmaIdx := t.dmaIdx, fault := t.fault, timer := t.timer, response := t.response
      draws := t.draws }) ∨
    (i = .irqAck ∧ t = { ackSelected (select s) s with response := t.response }) ∨
    (i = .reset ∧ t = resetDispatcher (resetVideo (resetPeripherals (beginCommand s)))) ∨
    (∃ x a v, i = storeOf x a v ∧ (x ≠ .oam ∧ x ≠ .dma ∧ x ≠ .vram) ∧
      bodyOf (storeOf x a v) (beginCommand s) = .ok 0 t) ∨
    t = { s with
      oam := t.oam, vram := t.vram, dmaSrc := t.dmaSrc, dmaIdx := t.dmaIdx, fault := t.fault, response := t.response
      draws := t.draws } := by
  cases h with
  | step _ h => exact .inl ⟨rfl, by rw [(dmaStep_ok_frame h).1]; rfl⟩
  | stepFault _ h => exact .inl ⟨rfl, by rw [(dmaStep_stopped_frame h).1]⟩
  | irqAck _ => exact .inr (.inl ⟨rfl, rfl⟩)
  | reset _ => exact .inr (.inr (.inl ⟨rfl, rfl⟩))
  | store x a v _ hx h => exact .inr (.inr (.inr (.inl ⟨x, a, v, rfl, hx, h⟩)))
  | refuse _ => exact .inr (.inr (.inr (.inr rfl)))
  | irqPeek _ => exact .inr (.inr (.inr (.inr rfl)))
  | fetch _ _ _ h => exact .inr (.inr (.inr (.inr (by rw [(readTarget_ok_frame h).1]; rfl))))
  | fetchOamFault _ _ _ => exact .inr (.inr (.inr (.inr rfl)))
  | storeOam _ _ _ _ => exact .inr (.inr (.inr (.inr (by rw [setOamByte_frame]; rfl))))
  | storeOamFault _ _ _ _ => exact .inr (.inr (.inr (.inr rfl)))
  | storeDma _ _ h => exact .inr (.inr (.inr (.inr (by rw [(dmaTrigger_ok_frame h).1]; rfl))))
  | storeDmaFault _ _ h => exact .inr (.inr (.inr (.inr (by rw [(dmaTrigger_stopped_frame h).1]; rfl))))
  | storeVram _ _ _ _ _ => exact .inr (.inr (.inr (.inr rfl)))

/-! ### The operands -/

/-- The offset of an address of a window lies below the size of the window (R80). -/
theorem storeIndex_lt {base hi a : Addr} {n : Nat} (h : inRange base hi a = true) (hn : hi.toNat - base.toNat < n) :
    storeIndex base a < n := by
  obtain ⟨hlo, hhi⟩ := inRange_iff.1 h
  rw [storeIndex, windowOffset, BitVec.toNat_sub_of_le hlo]
  omega

theorem ioIndex_lt {a : Addr} (h : Target.ioShadow.covers a = true) : ioIndex a < 76 := by
  simp only [Target.covers, Bool.or_eq_true, inRange_iff, BitVec.reduceToNat] at h
  rw [ioIndex, toNat_ioOffset]
  omega

/-! ### The invariant -/

variable {s t : State}

/-- Power-on meets every clause by its own values; the stores list nothing. -/
theorem inv_reset : Inv State.reset :=
  ⟨by decide, by decide, .inr ⟨rfl, rfl⟩, ⟨.nil _, .nil _, .nil _, .nil _⟩, rfl, by decide⟩

/-- A response that tells the fault flag and names no source keeps the invariant. -/
theorem Inv.with_response (h : Inv s) {r : Response} (hf : r.fault = s.fault) (hi : r.irq = none) :
    Inv { s with response := r } := by
  obtain ⟨hraster, hidx, hsrc, hmem, -, -⟩ := h
  have hirq : SourceHasLatch { s with response := r } := ⟨by simp [hi], by simp [hi]⟩
  exact ⟨hraster, hidx, hsrc, hmem, hf, hirq⟩

/-- `Select()` names no source without a latch (R171, R176). -/
theorem select_hasLatch (s : State) : select s ≠ some .serial ∧ select s ≠ some .button := by
  unfold select
  split_ifs <;> simp

theorem Inv.after_select (h : Inv s) (hf : s.fault = false) :
    Inv { s with response := irqResponse (select s) } := by
  obtain ⟨hraster, hidx, hsrc, hmem, -, -⟩ := h
  exact ⟨hraster, hidx, hsrc, hmem, hf.symm, select_hasLatch s⟩

theorem Inv.after_raiseViolation (h : Inv s) (k : OamAccess) (a : Addr) : Inv (raiseViolation k a s) := by
  obtain ⟨hraster, hidx, hsrc, hmem, -, hirq⟩ := h
  exact ⟨hraster, hidx, hsrc, hmem, rfl, hirq⟩

theorem Inv.after_setVram (h : Inv s) {o : Nat} (ho : o < 8192) (b : Byte) : Inv (setVram o b s) := by
  obtain ⟨hraster, hidx, hsrc, ⟨hvram, hwram, hzram, hio⟩, hresp⟩ := h
  exact ⟨hraster, hidx, hsrc, ⟨hvram.write ho b, hwram, hzram, hio⟩, hresp⟩

theorem Inv.after_setWram (h : Inv s) {o : Nat} (ho : o < 8192) (b : Byte) : Inv (setWram o b s) := by
  obtain ⟨hraster, hidx, hsrc, ⟨hvram, hwram, hzram, hio⟩, hresp⟩ := h
  exact ⟨hraster, hidx, hsrc, ⟨hvram, hwram.write ho b, hzram, hio⟩, hresp⟩

theorem Inv.after_setZram (h : Inv s) {o : Nat} (ho : o < 127) (b : Byte) : Inv (setZram o b s) := by
  obtain ⟨hraster, hidx, hsrc, ⟨hvram, hwram, hzram, hio⟩, hresp⟩ := h
  exact ⟨hraster, hidx, hsrc, ⟨hvram, hwram, hzram.write ho b, hio⟩, hresp⟩

theorem Inv.after_setIoShadow (h : Inv s) {o : Nat} (ho : o < 76) (b : Byte) : Inv (setIoShadow o b s) := by
  obtain ⟨hraster, hidx, hsrc, ⟨hvram, hwram, hzram, hio⟩, hresp⟩ := h
  exact ⟨hraster, hidx, hsrc, ⟨hvram, hwram, hzram, hio.write ho b⟩, hresp⟩

/-- A tick stays in the raster, and a `Flip` touches no field of the response that the invariant reads (R23, R121). -/
theorem Inv.after_videoTick (h : Inv s) : Inv (videoTick s) := by
  obtain ⟨hraster, hidx, hsrc, hmem, hfault, hirq⟩ := h
  have hresp : (videoTick s).response.fault = s.response.fault ∧ (videoTick s).response.irq = s.response.irq := by
    rcases videoTick_flip s with ⟨-, e, -⟩ | ⟨-, e, -⟩ <;> rw [e] <;> exact ⟨rfl, rfl⟩
  have hirq' : SourceHasLatch (videoTick s) := by rwa [SourceHasLatch, hresp.2]
  rw [videoTick_frame] at hirq' ⊢
  exact ⟨(videoTick_rasterPos hraster).1, hidx, hsrc, hmem, hresp.1.trans hfault, hirq'⟩

theorem Inv.after_read {x : Target} {a : Addr} {b : Byte} (h : Inv s) (hb : readTarget x a s = .ok b t) : Inv t := by
  obtain ⟨hstate, hresp⟩ := readTarget_ok_frame hb
  rw [hstate, hresp]
  exact h

/-- The low bytes of the source address and of the index advance together (R78, R155). -/
theorem lowByte_succ {src idx : BitVec 16} (h : src.extractLsb' 0 8 = idx.extractLsb' 0 8) :
    (src + 1).extractLsb' 0 8 = (idx + 1).extractLsb' 0 8 := by
  rw [← BitVec.toNat_inj, toNat_ioOffset, toNat_ioOffset] at h ⊢
  simp only [BitVec.toNat_add, BitVec.reduceToNat]
  omega

theorem Inv.after_advanceDma (h : Inv s) (hlt : ¬ dmaLen ≤ s.dmaIdx) : Inv (advanceDma s) := by
  obtain ⟨hraster, hidx, hsrc, hrest⟩ := h
  refine ⟨hraster, ?_, .inl ?_, hrest⟩
  · change s.dmaIdx + 1 ≤ dmaLen
    unfold dmaLen at *
    bv_omega
  · rcases hsrc with hlow | ⟨-, hidle⟩
    · exact lowByte_succ hlow
    · exact absurd (by rw [hidle]; decide) hlt

theorem Inv.after_setOamByte (h : Inv s) (i : Nat) (b : Byte) : Inv (setOamByte i b s) := by
  rw [setOamByte_frame]
  exact h

/-- A DMA step that ends well moves both counters or neither (R33, R78, R151). -/
theorem Inv.after_dmaStep_ok (h : Inv s) (hd : dmaStep s = .ok () t) : Inv t := by
  rcases dmaStep_cases s with ⟨-, e⟩ | ⟨hlt, -, b, u, hb, e⟩ | ⟨-, -, -, e⟩ | ⟨-, -, -, b, u, -, e⟩ <;> rw [e] at hd <;>
    cases hd
  · exact h
  · have hidx : u.dmaIdx = s.dmaIdx := by rw [(busRead_ok_frame hb).1]
    exact ((h.after_read hb).after_setOamByte _ b).after_advanceDma (by rwa [setOamByte_dmaIdx, hidx])

/-- A DMA step that faults moves neither counter, and reports the fault (R93, R156). -/
theorem Inv.after_dmaStep_stopped (h : Inv s) (hd : dmaStep s = .stopped t) : Inv t := by
  rcases dmaStep_cases s with ⟨-, e⟩ | ⟨-, -, b, u, -, e⟩ | ⟨-, -, -, e⟩ | ⟨-, -, -, b, u, hb, e⟩ <;> rw [e] at hd <;>
    cases hd
  · exact h.after_raiseViolation _ _
  · exact (h.after_read hb).after_raiseViolation _ _

/-- A trigger starts both counters at a low byte of 0 (R78, R150). -/
theorem Inv.with_trigger (h : Inv s) (page : Byte) : Inv { s with dmaIdx := 0, dmaSrc := dmaSourceOf page } := by
  obtain ⟨hraster, -, -, hrest⟩ := h
  exact ⟨hraster, show (0 : BitVec 16) ≤ dmaLen by decide, .inl BitVec.extractLsb'_append_eq_right, hrest⟩

theorem Inv.after_storeOf {x : Target} {a : Addr} {v : Byte} (h : Inv s)
    (hw : (storeOf x a v).wellFormed = true) (hx : x ≠ .oam ∧ x ≠ .dma ∧ x ≠ .vram)
    (hb : bodyOf (storeOf x a v) s = .ok 0 t) : Inv t := by
  obtain ⟨hoam, hdma, hvram⟩ := hx
  cases x
  case oam => exact absurd rfl hoam
  case dma => exact absurd rfl hdma
  case vram => exact absurd rfl hvram
  all_goals cases hb
  case wram => exact h.after_setWram (storeIndex_lt hw (by decide)) v
  case echo => exact h.after_setWram (storeIndex_lt hw (by decide)) v
  case zram => exact h.after_setZram (storeIndex_lt hw (by decide)) v
  case ioShadow => exact h.after_setIoShadow (ioIndex_lt hw) v
  case p1 => exact h.after_setIoShadow (o := offP1.toNat) (by decide) v
  all_goals exact h

theorem Inv.after_timerTick (h : Inv s) : Inv (timerTick s) := h

theorem Inv.after_withData (h : Inv s) (b : Byte) : Inv (withData b s) := h

/-- `RESET` leaves the power-on values of every field the invariant reads but the fault flag, which was 0 (R46, R321). -/
theorem Inv.after_reset (hf : s.fault = false) :
    Inv (resetDispatcher (resetVideo (resetPeripherals (beginCommand s)))) := by
  obtain ⟨hraster, hidx, hsrc, hmem, -, hirq⟩ := inv_reset
  exact ⟨hraster, hidx, hsrc, hmem, hf.symm, hirq⟩

theorem Inv.after_command {i : Instr} (h : Inv s) (hw : i.wellFormed = true) (hd : Does s i t) : Inv t := by
  have hbegin : s.fault = false → Inv (beginCommand s) := fun hf => h.with_response hf.symm rfl
  cases hd with
  | refuse _ => exact h.with_response rfl rfl
  | step hf hd => exact ((hbegin hf).after_videoTick.after_dmaStep_ok hd).after_timerTick.after_withData 0
  | stepFault hf hd => exact (hbegin hf).after_videoTick.after_dmaStep_stopped hd
  | irqPeek hf => exact h.after_select hf
  | irqAck hf =>
    rw [ackSelected_frame]
    exact h.after_select hf
  | reset hf => exact Inv.after_reset hf
  | fetch x a hf hb => exact ((hbegin hf).after_read hb).after_withData _
  | fetchOamFault a hf _ => exact (hbegin hf).after_raiseViolation _ _
  | storeOam a v hf _ => exact (hbegin hf).after_setOamByte _ _
  | storeOamFault a v hf _ => exact (hbegin hf).after_raiseViolation _ _
  | storeDma v hf hd => exact (((hbegin hf).with_trigger v).after_dmaStep_ok hd).after_withData 0
  | storeDmaFault v hf hd => exact ((hbegin hf).with_trigger v).after_dmaStep_stopped hd
  | storeVram a v b n hf => exact (hbegin hf).after_setVram (storeIndex_lt hw (by decide)) b
  | store x a v hf hx hb => exact (hbegin hf).after_storeOf hw hx hb

/-- An operation that answers a next state is one of the block's (log 11). -/
theorem wellFormed_of_exec_next {i : Instr} (h : exec i s = .next t) : i.wellFormed = true := by
  cases hw : i.wellFormed
  · rw [exec_of_not_wellFormed hw] at h
    cases h
  · rfl

/-- A step does nothing, with no command presented, or executes the one presented first (R90; log 1). -/
theorem step_next_cases (h : step s = .next t) :
    t = s ∨ ∃ cw rest, s.pending = cw :: rest ∧ exec (decode cw) { s with pending := rest } = .next t := by
  unfold step takeCommand at h
  cases hp : s.pending with
  | nil =>
    rw [hp] at h
    cases h
    exact .inl rfl
  | cons cw rest =>
    rw [hp] at h
    exact .inr ⟨cw, rest, rfl, h⟩

/-- Settles O10: each shared operation keeps the invariant, so each command does, and a step is one command or nothing. -/
theorem everyStepKeepsTheInvariant : Obligations.EveryStepKeepsTheInvariant := by
  intro s t h hstep
  rcases step_next_cases hstep with rfl | ⟨cw, rest, -, hexec⟩
  · exact h
  · exact Inv.after_command (s := { s with pending := rest }) h (wellFormed_of_exec_next hexec) (exec_does hexec)

/-- Settles O9. -/
theorem powerOnMeetsTheInvariant : Obligations.PowerOnMeetsTheInvariant := inv_reset

/-! ### What only some commands change -/

/-- Settles O47: of the five classes of commands only `STEP` and `RESET` have the position outside their frame. -/
theorem onlyTicksAndResetMoveThePosition : Obligations.OnlyTicksAndResetMoveThePosition := by
  intro i s t h hstep hreset
  rcases (exec_does h).frame with ⟨rfl, -⟩ | ⟨-, e⟩ | ⟨rfl, -⟩ | ⟨x, a, v, -, hx, hb⟩ | e
  · exact absurd rfl hstep
  · rw [e]; exact ⟨ackSelected_line s _, ackSelected_col s _⟩
  · exact absurd rfl hreset
  · rw [(storeOf_frame hx hb).1]; exact ⟨rfl, rfl⟩
  · rw [e]; exact ⟨rfl, rfl⟩

/-- Settles O48: the enables stand outside every frame but that of `RESET` and of a `STORE`, and there only `STORE.IE`
writes them. -/
theorem onlyEnableStoreAndResetWriteEnables : Obligations.OnlyEnableStoreAndResetWriteEnables := by
  intro i s t h hne
  rcases (exec_does h).frame with ⟨-, e⟩ | ⟨-, e⟩ | ⟨rfl, -⟩ | ⟨x, a, v, rfl, hx, hb⟩ | e
  · exact absurd (by rw [e]; simp) hne
  · exact absurd (by rw [e]; simp) hne
  · exact .inl rfl
  · by_cases hie : x = .ie
    · exact .inr ⟨v, by rw [hie]; rfl⟩
    · obtain ⟨-, hkept, -⟩ := storeOf_frame hx hb
      exact absurd (hkept hie) hne
  · exact absurd (by rw [e]) hne

/-- A tick lowers neither video latch (R123, R124). -/
theorem videoTick_keeps_videoLatches (s : State) :
    (s.itVblank = true → (videoTick s).itVblank = true) ∧ (s.itLcd = true → (videoTick s).itLcd = true) := by
  refine ⟨fun h => ?_, fun h => by rw [videoTick_itLcd, h, Bool.true_or]⟩
  rcases videoTick_flip s with ⟨-, -, -, e⟩ | ⟨-, -, -, e⟩
  · exact e
  · exact e.trans h

/-- An acknowledge raises neither video latch (R173). -/
theorem ackSelected_raises_no_videoLatch (r : Option Source) (s : State) :
    ((ackSelected r s).itVblank = true → s.itVblank = true) ∧ ((ackSelected r s).itLcd = true → s.itLcd = true) := by
  cases r with
  | none => exact ⟨id, id⟩
  | some src => cases src <;> simp [ackSelected, ackLatch]

/-- Settles O49: by the five classes of commands; a tick lowers no video latch, an acknowledge and `RESET` raise none, a
`STORE` writes them through the interrupt-flag register alone, and no other command touches them. -/
theorem videoLatchesAreSticky : Obligations.VideoLatchesAreSticky := by
  intro i s t h
  rcases (exec_does h).frame with ⟨rfl, e⟩ | ⟨rfl, e⟩ | ⟨rfl, e⟩ | ⟨x, a, v, rfl, hx, hb⟩ | e
  · obtain ⟨hvblank, hlcd⟩ := videoTick_keeps_videoLatches (beginCommand s)
    rw [e]
    exact ⟨fun _ _ => .inl rfl, fun _ _ => .inl rfl, fun h1 h0 => absurd (hvblank h1) (Bool.eq_false_iff.1 h0),
      fun h1 h0 => absurd (hlcd h1) (Bool.eq_false_iff.1 h0)⟩
  · obtain ⟨hvblank, hlcd⟩ := ackSelected_raises_no_videoLatch (select s) s
    rw [e]
    exact ⟨fun h0 h1 => absurd (hvblank h1) (Bool.eq_false_iff.1 h0),
      fun h0 h1 => absurd (hlcd h1) (Bool.eq_false_iff.1 h0), fun _ _ => .inl rfl, fun _ _ => .inl rfl⟩
  · rw [e]
    exact ⟨fun _ h1 => Bool.noConfusion h1, fun _ h1 => Bool.noConfusion h1, fun _ _ => .inr (.inl rfl),
      fun _ _ => .inr (.inl rfl)⟩
  · by_cases hif : x = .irqFlag
    · subst hif
      exact ⟨fun _ _ => .inr ⟨v, rfl⟩, fun _ _ => .inr ⟨v, rfl⟩, fun _ _ => .inr (.inr ⟨v, rfl⟩),
        fun _ _ => .inr (.inr ⟨v, rfl⟩)⟩
    · obtain ⟨-, -, hkept⟩ := storeOf_frame hx hb
      obtain ⟨hvblank, hlcd⟩ := hkept hif
      rw [hvblank, hlcd]
      simp +contextual
  · rw [e]
    simp +contextual

end Sys2Proof.Machine
end

section
/-! PROOFS. What single commands do: power-on and `RESET`, the video registers, the input matrix, the interrupt-flag
register, and internal RAM through its two windows. -/

namespace Sys2Proof.Machine

variable {s : State}

/-! ### Reads and writes that cannot fault -/

/-- A `FETCH` whose read leaves the state answers the byte and changes nothing but the response (R190). -/
theorem runFetch_of_read {read : State → Run Byte} {b : Byte} (hf : s.fault = false)
    (hb : read (beginCommand s) = .ok b (beginCommand s)) :
    runFetch read s = .next { s with response := byteResponse b } := runFetch_of_ok hf hb

/-- A `STORE` whose write leaves the response answers the written state with a quiet response (R191). -/
theorem runStore_of_write {write : State → State} (hf : s.fault = false)
    (hw : (write (beginCommand s)).response = Response.quiet) :
    runStore write s = .next { write (beginCommand s) with response := Response.quiet } := by
  rw [runStore_of_ok hf, hw]
  rfl

/-! ### Power-on and `RESET` -/

/-- `OAM_FILL` is one of the 255 bytes that are not 0 (R8, D15). -/
theorem oamFill_ne_zero : Config.oamFill ≠ 0 := by
  have hlt := Config.oamFillLessOne.isLt
  unfold Config.oamFill
  bv_omega

/-- Settles O8. -/
theorem powerOnState : Obligations.PowerOnState := by
  have hoam : ∀ i : Fin 160, State.reset.oam[i] = Config.oamFill := fun i => by simp [State.reset]
  have hregs : ∀ r, vregGet r State.reset = 0 := fun r => by cases r <;> rfl
  exact ⟨rfl, rfl, hoam, oamFill_ne_zero, fun _ => ⟨rfl, rfl, rfl, rfl⟩, hregs, rfl, rfl, rfl, rfl, rfl, rfl, rfl, rfl⟩

/-- Settles O46: the three parts of `RESET` write the power-on value of every field but those the statement lists, and
the fault flag, which was 0. -/
theorem resetRestoresThePowerOnState : Obligations.ResetRestoresThePowerOnState := by
  intro s hf
  have h : exec .reset s = .next { State.reset with
      fault := s.fault, cart := Config.cartReset s.cart, pad := s.pad, flips := s.flips, pending := s.pending
      draws := s.draws } :=
    runStore_of_write (write := fun u => resetDispatcher (resetVideo (resetPeripherals u))) hf rfl
  rw [h, hf]
  rfl

/-! ### The video registers -/

theorem runFetch_readVreg (hf : s.fault = false) (r : VReg) :
    runFetch (readVreg r) s = .next { s with response := byteResponse (vregGet r s) } := by
  have hb : vregGet r (beginCommand s) = vregGet r s := by cases r <;> rfl
  exact runFetch_of_read hf (congrArg (Run.ok · (beginCommand s)) hb)

/-- Settles O25: each of the ten operations is the read of its register. -/
theorem videoRegistersFetch : Obligations.VideoRegistersFetch := fun _ hf =>
  ⟨runFetch_readVreg hf .ctrl, runFetch_readVreg hf .stat, runFetch_readVreg hf .scy, runFetch_readVreg hf .scx,
    runFetch_readVreg hf .lyc, runFetch_readVreg hf .pal0, runFetch_readVreg hf .pal1, runFetch_readVreg hf .pal2,
    runFetch_readVreg hf .wy, runFetch_readVreg hf .wx⟩

/-- Every bit of every register is writable (R28, D11). -/
theorem and_vregMask (v : Byte) (r : VReg) : v &&& vregMask r = v := by
  cases r <;> exact BitVec.and_allOnes

/-- The register file with one register replaced. -/
def VideoRegs.set (g : VideoRegs) (r : VReg) (v : Byte) : VideoRegs :=
  match r with
  | .ctrl => { g with ctrl := v }
  | .stat => { g with stat := v }
  | .scy => { g with scy := v }
  | .scx => { g with scx := v }
  | .lyc => { g with lyc := v }
  | .pal0 => { g with pal0 := v }
  | .pal1 => { g with pal1 := v }
  | .pal2 => { g with pal2 := v }
  | .wy => { g with wy := v }
  | .wx => { g with wx := v }

theorem vregSet_eq (r : VReg) (v : Byte) (s : State) : vregSet r v s = { s with vregs := s.vregs.set r v } := by
  unfold vregSet
  rw [and_vregMask]
  cases r <;> rfl

theorem runStore_vregSet (hf : s.fault = false) (r : VReg) (v : Byte) :
    runStore (vregSet r v) s = .next { s with vregs := s.vregs.set r v, response := Response.quiet } := by
  rw [runStore_of_write hf (vregSet_response _ r v), vregSet_eq]
  rfl

/-- Settles O26: each of the ten operations is the write of its register, through a mask that keeps every bit. -/
theorem videoRegistersStore : Obligations.VideoRegistersStore := fun _ v hf =>
  ⟨runStore_vregSet hf .ctrl v, runStore_vregSet hf .stat v, runStore_vregSet hf .scy v, runStore_vregSet hf .scx v,
    runStore_vregSet hf .lyc v, runStore_vregSet hf .pal0 v, runStore_vregSet hf .pal1 v, runStore_vregSet hf .pal2 v,
    runStore_vregSet hf .wy v, runStore_vregSet hf .wx v⟩

/-! ### The input matrix -/

/-- Four levels side by side, read from bit 0. -/
theorem getLsbD_lineLevels (x3 x2 x1 x0 : Bool) :
    let n : BitVec 4 := lineLevel x3 ++ lineLevel x2 ++ lineLevel x1 ++ lineLevel x0
    n.getLsbD 0 = !x0 ∧ n.getLsbD 1 = !x1 ∧ n.getLsbD 2 = !x2 ∧ n.getLsbD 3 = !x3 := by
  revert x3 x2 x1 x0
  decide

/-- A low bit of the input matrix is the bit of the selected nibbles, joined by OR (R232, D18). -/
theorem getLsbD_inputMatrixByte (shadow : Byte) (p : Pad) {i : Nat} (hi : i < 4) :
    (inputMatrixByte shadow p).getLsbD i =
      ((!shadow.getLsbD 4 && (directionNibble p).getLsbD i) || (!shadow.getLsbD 5 && (actionNibble p).getLsbD i)) := by
  rw [inputMatrixByte, BitVec.getLsbD_append, if_pos hi, BitVec.getLsbD_or]
  cases shadow.getLsbD 4 <;> cases shadow.getLsbD 5 <;> simp

/-- The byte of the input matrix: a low bit is 1 when a selected nibble has its button released, a high bit is 0 (R232). -/
theorem inputMatrixByte_bits (shadow : Byte) (p : Pad) :
    (inputMatrixByte shadow p).getLsbD 0 = ((!shadow.getLsbD 4 && !p.right) || (!shadow.getLsbD 5 && !p.a)) ∧
    (inputMatrixByte shadow p).getLsbD 1 = ((!shadow.getLsbD 4 && !p.left) || (!shadow.getLsbD 5 && !p.b)) ∧
    (inputMatrixByte shadow p).getLsbD 2 = ((!shadow.getLsbD 4 && !p.up) || (!shadow.getLsbD 5 && !p.select)) ∧
    (inputMatrixByte shadow p).getLsbD 3 = ((!shadow.getLsbD 4 && !p.down) || (!shadow.getLsbD 5 && !p.start)) ∧
    (inputMatrixByte shadow p).extractLsb' 4 4 = 0 := by
  obtain ⟨d0, d1, d2, d3⟩ := getLsbD_lineLevels p.down p.up p.left p.right
  obtain ⟨a0, a1, a2, a3⟩ := getLsbD_lineLevels p.start p.select p.b p.a
  rw [← directionNibble] at d0 d1 d2 d3
  rw [← actionNibble] at a0 a1 a2 a3
  refine ⟨?_, ?_, ?_, ?_, BitVec.extractLsb'_append_eq_left⟩
  · rw [getLsbD_inputMatrixByte _ _ (by decide), d0, a0]
  · rw [getLsbD_inputMatrixByte _ _ (by decide), d1, a1]
  · rw [getLsbD_inputMatrixByte _ _ (by decide), d2, a2]
  · rw [getLsbD_inputMatrixByte _ _ (by decide), d3, a3]

/-- Settles O28: the read joins the selected nibbles; the store writes shadow byte 0 and draws a snapshot. -/
theorem inputMatrixSynthesizesTheSelectedNibbles : Obligations.InputMatrixSynthesizesTheSelectedNibbles := by
  intro s v hf
  refine ⟨⟨inputMatrixByte (Memory.byte s.ioShadow 0) s.pad, runFetch_of_read hf rfl, inputMatrixByte_bits _ _⟩,
    Memory.write s.ioShadow 0 v, runStore_of_write hf rfl, Memory.byte_write_same _ _ _, fun o ho => ?_⟩
  exact Memory.byte_write_other _ _ ho

/-! ### The interrupt-flag register -/

theorem exec_fetchIf (hf : s.fault = false) :
    exec .fetchIf s = .next { s with
      response := byteResponse (encodeFlags ⟨s.itVblank, s.itLcd, s.timer.latch, false, false⟩) } :=
  runFetch_of_read hf rfl

theorem exec_storeIf (hf : s.fault = false) (v : Byte) :
    exec (.storeIf v) s = .next { s with
      itVblank := v.getLsbD 0, itLcd := v.getLsbD 1
      timer := { Config.timerForce s.timer (v.getLsbD 2) with latch := v.getLsbD 2 }
      response := Response.quiet } :=
  runStore_of_write (write := writeIf v) hf rfl

/-- The flag byte of the low three bits of a byte is those three bits (R81, R246). -/
theorem encodeFlags_lowBits (v : Byte) :
    encodeFlags ⟨v.getLsbD 0, v.getLsbD 1, v.getLsbD 2, false, false⟩ = v &&& 0x07 := by
  revert v
  decide

/-- Settles O30: the store forces the three latches to the low bits of its byte, and the read shows the latches. -/
theorem interruptFlagRegisterShowsAndForcesTheLatches :
    Obligations.InterruptFlagRegisterShowsAndForcesTheLatches := by
  intro s v hf
  refine ⟨exec_fetchIf hf, _, exec_storeIf hf v, rfl, ?_⟩
  rw [exec_fetchIf (by exact hf), ← encodeFlags_lowBits]

/-! ### Internal RAM through its two windows -/

theorem exec_fetchWram {a : Addr} (hf : s.fault = false) (ha : Target.wram.covers a = true) :
    exec (.fetchWram a) s = .next { s with response := byteResponse (Memory.byte s.wram (storeIndex 0xc000 a)) } :=
  (inWindow_of_covers ha _).trans (runFetch_of_read hf rfl)

theorem exec_fetchEcho {a : Addr} (hf : s.fault = false) (ha : Target.echo.covers a = true) :
    exec (.fetchEcho a) s = .next { s with response := byteResponse (Memory.byte s.wram (storeIndex 0xe000 a)) } :=
  (inWindow_of_covers ha _).trans (runFetch_of_read hf rfl)

theorem exec_storeWram {a : Addr} (hf : s.fault = false) (ha : Target.wram.covers a = true) (v : Byte) :
    exec (.storeWram a v) s = .next { setWram (storeIndex 0xc000 a) v s with response := Response.quiet } :=
  (inWindow_of_covers ha _).trans (runStore_of_write hf rfl)

theorem exec_storeEcho {a : Addr} (hf : s.fault = false) (ha : Target.echo.covers a = true) (v : Byte) :
    exec (.storeEcho a v) s = .next { setWram (storeIndex 0xe000 a) v s with response := Response.quiet } :=
  (inWindow_of_covers ha _).trans (runStore_of_write hf rfl)

/-- An echo address and the RAM address 0x2000 below it name the same byte (R49). -/
theorem storeIndex_echo (a : Addr) : storeIndex 0xe000 (a + 0x2000) = storeIndex 0xc000 a := by
  unfold storeIndex windowOffset
  bv_omega

/-- The lower 0x1e00 bytes of internal RAM lie in both windows (R49). -/
theorem covers_wram_and_echo {a : Addr} (ha : inRange 0xc000 0xddff a = true) :
    Target.wram.covers a = true ∧ Target.echo.covers (a + 0x2000) = true := by
  simp only [Target.covers, inRange_iff, BitVec.toNat_add, BitVec.reduceToNat] at ha ⊢
  omega

/-- Settles O20: both windows reach the byte at one offset, so what one stores the other fetches. -/
theorem echoAliasesInternalRam : Obligations.EchoAliasesInternalRam := by
  intro s a v hf ha
  obtain ⟨hwram, hecho⟩ := covers_wram_and_echo ha
  refine ⟨⟨_, _, exec_storeWram hf hwram v, exec_fetchEcho hf hecho, ?_⟩,
    ⟨_, _, exec_storeEcho hf hecho v, exec_fetchWram hf hwram, ?_⟩⟩
  · rw [storeIndex_echo]
    exact congrArg byteResponse (Memory.byte_write_same _ _ _)
  · rw [storeIndex_echo]
    exact congrArg byteResponse (Memory.byte_write_same _ _ _)

end Sys2Proof.Machine
end

section
/-! PROOFS. The memory map as the block serves it: an address selects one target, every command is answered, a `FETCH`
disturbs nothing, the DMA register shows the source page; and the two small statements beside them, the byte of five
flags and the order inside a `STEP`. -/

namespace Sys2Proof.Machine

/-! ### The flag byte -/

theorem encodeFlags_decodeFlags (b : Byte) : encodeFlags (decodeFlags b) = b &&& 0x1f := by
  revert b
  decide

theorem decodeFlags_encodeFlags (f : SourceFlags) : decodeFlags (encodeFlags f) = f := by
  obtain ⟨vblank, lcd, timer, serial, button⟩ := f
  revert vblank lcd timer serial button
  decide

/-- Settles O6: the layouts are the definitions, and the two round trips run over every byte and every flag tuple. -/
theorem flagsPackAndUnpack : Obligations.FlagsPackAndUnpack :=
  ⟨fun _ => rfl, fun _ => rfl, encodeFlags_decodeFlags, decodeFlags_encodeFlags⟩

/-! ### What an address selects -/

/-- A choice between two targets covers an address when the chosen one does. -/
theorem covers_ite {c : Prop} [Decidable c] {x y : Target} {a : Addr} (hx : c → x.covers a = true)
    (hy : ¬ c → y.covers a = true) : (if c then x else y).covers a = true := by
  split
  · exact hx ‹_›
  · exact hy ‹_›

/-- Settles O57: the chain of bounds picks a target that covers the address, and no address has two such targets. -/
theorem addressesDecodeByTheMemoryMap : Obligations.AddressesDecodeByTheMemoryMap := by
  intro a v target
  have hcovers : target.covers a = true := by
    unfold target
    clear target
    repeat' refine @covers_ite _ _ _ _ _ (fun _ => ?_) fun _ => ?_
    all_goals
      simp only [Target.covers, Bool.or_eq_true, inRange_iff, BitVec.reduceToNat]
      bv_omega
  have htarget : targetOf a = target := targetOf_eq hcovers
  refine ⟨by rw [decode_mk_fetch, htarget], by rw [decode_mk_store, htarget], fun x => ?_⟩
  rw [← targetOf_eq_iff, htarget, eq_comm]

/-! ### Every command is answered -/

theorem fetchOf_wellFormed {x : Target} {a : Addr} (h : x.covers a = true) : (fetchOf x a).wellFormed = true := by
  cases x <;> simp [fetchOf, Instr.wellFormed, h]

theorem storeOf_wellFormed {x : Target} {a : Addr} (h : x.covers a = true) (v : Byte) :
    (storeOf x a v).wellFormed = true := by
  cases x <;> simp [storeOf, Instr.wellFormed, h]

/-- A command word carries no address outside the window it selects (R95, R100). -/
theorem decode_wellFormed (cw : CommandWord) : (decode cw).wellFormed = true := by
  unfold decode
  split_ifs
  · rfl
  · exact fetchOf_wellFormed (covers_targetOf _)
  · exact storeOf_wellFormed (covers_targetOf _) _
  all_goals rfl

/-- A refusal, a completion and a fault are all next states (R97, R291; log 3). -/
theorem exec_answers {i : Instr} (h : i.wellFormed = true) (s : State) : ∃ t, exec i s = .next t := by
  by_cases hr : Reserved i
  · exact ⟨_, exec_of_reserved hr s⟩
  · rw [exec_of_wellFormed h hr]
    rcases runCommand_cases (bodyOf i) s with ⟨-, e⟩ | ⟨-, b, t, -, e⟩ | ⟨-, t, -, e⟩ <;> exact ⟨_, e⟩

/-- Settles O13: a step does nothing, or executes the operation of a command word, which is well formed. -/
theorem everyCommandIsAnswered : Obligations.EveryCommandIsAnswered := by
  intro s
  refine ⟨?_, fun i h => exec_answers h s⟩
  unfold step
  cases takeCommand s with
  | none => exact ⟨s, rfl⟩
  | some command => exact exec_answers (decode_wellFormed command.1) command.2

/-! ### A `FETCH` is a bus read -/

theorem not_reserved_fetchOf (x : Target) (a : Addr) : ¬ Reserved (fetchOf x a) := by
  cases x <;> simp [fetchOf, Reserved]

/-- A `FETCH` command word runs the read of its address (R95, R190). -/
theorem exec_fetchWord (a : Addr) (v : Byte) (s : State) :
    exec (decode (CommandWord.mk 1 a v)) s = runCommand (busRead a) s := by
  rw [decode_mk_fetch, exec_of_wellFormed (fetchOf_wellFormed (covers_targetOf a)) (not_reserved_fetchOf _ a),
    bodyOf_fetchOf]
  rfl

/-- Settles O52: a refused `FETCH` changes the response alone; any other does what its read does, which advances the
draws for gated video memory alone and sets the fault flag for locked OAM alone. -/
theorem fetchHasNoSideEffect : Obligations.FetchHasNoSideEffect := by
  intro s a v
  rw [exec_fetchWord]
  cases hf : s.fault
  · rcases readTarget_cases (targetOf a) a (beginCommand s) with
      ⟨b, hread⟩ | ⟨-, hread⟩ | ⟨hvram, hactive, b, hread⟩ | ⟨hoam, hlocked, hread⟩
    · exact ⟨_, runCommand_of_ok hf hread, rfl, fun _ => hf, fun _ => rfl⟩
    · exact ⟨_, runCommand_of_ok hf hread, rfl, fun _ => hf, fun _ => rfl⟩
    · exact ⟨_, runCommand_of_ok hf hread, rfl, fun _ => hf,
        fun hplain => absurd ⟨(targetOf_eq_iff a _).1 hvram, hactive⟩ hplain⟩
    · exact ⟨_, runCommand_of_stopped hf hread, rfl,
        fun hopen => absurd ⟨(targetOf_eq_iff a _).1 hoam, (oamOpen_eq_false_iff _).1 hlocked⟩ hopen, fun _ => rfl⟩
  · exact ⟨_, runCommand_of_fault hf, rfl, fun _ => hf, fun _ => rfl⟩

/-! ### The order inside a `STEP` -/

theorem videoTick_rdata (s : State) : (videoTick s).response.rdata = s.response.rdata := by
  rcases videoTick_flip s with ⟨-, e, -⟩ | ⟨-, e, -⟩ <;> rw [e]

theorem tick_of_dmaStep_ok {s t : State} (h : dmaStep (videoTick s) = .ok () t) : tick s = .ok () (timerTick t) := by
  rw [tick, h]
  rfl

theorem tick_of_dmaStep_stopped {s t : State} (h : dmaStep (videoTick s) = .stopped t) : tick s = .stopped t := by
  rw [tick, h]
  rfl

/-- Settles O39: the timer stands outside the frames of the video tick and of the DMA step, and neither writes the byte
of the response. -/
theorem stepIsVideoThenDmaThenTimer : Obligations.StepIsVideoThenDmaThenTimer := by
  intro s hf
  refine ⟨fun t hdma => ?_, fun t hdma => ?_⟩
  · obtain ⟨hstate, hresponse, -⟩ := dmaStep_ok_frame hdma
    have htimer : t.timer = s.timer := by rw [hstate, videoTick_timer]
    have hrdata : t.response.rdata = 0 := by
      rw [hresponse]
      exact videoTick_rdata (beginCommand s)
    have hexec : exec .step s = .next (withData 0 (timerTick t)) := runEffect_of_ok hf (tick_of_dmaStep_ok hdma)
    refine ⟨?_, htimer, hrdata⟩
    rw [hexec, withData, ← hrdata, ← htimer]
    rfl
  · obtain ⟨hstate, -⟩ := dmaStep_stopped_frame hdma
    refine ⟨runEffect_of_stopped hf (tick_of_dmaStep_stopped hdma), ?_, ?_⟩
    · rw [hstate, videoTick_timer]
    · rw [hstate]

/-! ### The DMA register -/

variable {page : Byte} {s t : State}

/-- The source address is as far from the first byte of the page as the index is from 0 (R78, R150, R155). -/
def TransferFrom (page : Byte) (s : State) : Prop := s.dmaSrc = dmaSourceOf page + s.dmaIdx ∧ s.dmaIdx ≤ dmaLen

theorem toNat_dmaSourceOf (page : Byte) : (dmaSourceOf page).toNat = page.toNat * 256 := by
  rw [dmaSourceOf, BitVec.toNat_append, BitVec.toNat_ofNat, Nat.zero_mod, Nat.or_zero, Nat.shiftLeft_eq]

theorem dmaPageOf_eq (src : Addr) : dmaPageOf src = (src >>> 8).setWidth 8 := by
  rw [dmaPageOf, ← BitVec.toNat_inj]
  simp [BitVec.extractLsb'_toNat]

/-- A transfer of 160 bytes does not leave its page (R78). -/
theorem TransferFrom.dmaPageOf_eq (h : TransferFrom page s) : dmaPageOf s.dmaSrc = page := by
  obtain ⟨hsrc, hidx⟩ := h
  have hlast : s.dmaIdx.toNat ≤ 160 := hidx
  have hpage := page.isLt
  rw [dmaPageOf, ← BitVec.toNat_inj, BitVec.extractLsb'_toNat, hsrc, BitVec.toNat_add, toNat_dmaSourceOf,
    Nat.shiftRight_eq_div_pow]
  omega

theorem TransferFrom.congr (h : TransferFrom page s) (hsrc : t.dmaSrc = s.dmaSrc)
    (hidx : t.dmaIdx = s.dmaIdx) : TransferFrom page t := by
  unfold TransferFrom
  rwa [hsrc, hidx]

theorem TransferFrom.after_advanceDma (h : TransferFrom page s) (hlt : ¬ dmaLen ≤ s.dmaIdx) :
    TransferFrom page (advanceDma s) := by
  obtain ⟨hsrc, -⟩ := h
  refine ⟨by rw [advanceDma_dmaSrc, hsrc, advanceDma_dmaIdx, BitVec.add_assoc], ?_⟩
  rw [advanceDma_dmaIdx]
  unfold dmaLen at *
  bv_omega

theorem TransferFrom.after_dmaStep_ok (h : TransferFrom page s) (hd : dmaStep s = .ok () t) : TransferFrom page t := by
  rcases dmaStep_cases s with ⟨-, e⟩ | ⟨hlt, -, b, u, hb, e⟩ | ⟨-, -, -, e⟩ | ⟨-, -, -, b, u, -, e⟩ <;> rw [e] at hd <;>
    cases hd
  · exact h
  · obtain ⟨hread, -⟩ := busRead_ok_frame hb
    have hidx : (setOamByte (oamIndex s.dmaIdx) b u).dmaIdx = s.dmaIdx := by rw [setOamByte_dmaIdx, hread]
    have hsrc : (setOamByte (oamIndex s.dmaIdx) b u).dmaSrc = s.dmaSrc := by rw [setOamByte_dmaSrc, hread]
    exact (h.congr hsrc hidx).after_advanceDma (by rwa [hidx])

theorem TransferFrom.after_dmaStep_stopped (h : TransferFrom page s) (hd : dmaStep s = .stopped t) :
    TransferFrom page t := by
  obtain ⟨hstate, -⟩ := dmaStep_stopped_frame hd
  exact h.congr (by rw [hstate]) (by rw [hstate])

/-- A trigger starts at the first byte of the page (R150). -/
theorem transferFrom_of_storeDma (hf : s.fault = false) (h : exec (.storeDma page) s = .next t) :
    TransferFrom page t := by
  have hstart : TransferFrom page { beginCommand s with dmaIdx := 0, dmaSrc := dmaSourceOf page } :=
    ⟨(BitVec.add_zero _).symm, show (0 : BitVec 16) ≤ dmaLen by decide⟩
  rcases runEffect_cases (dmaTrigger page) s with ⟨hfault, -⟩ | ⟨-, u, hd, e⟩ | ⟨-, u, hd, e⟩
  · exact absurd hfault (Bool.eq_false_iff.1 hf)
  · cases e.symm.trans h
    exact (hstart.after_dmaStep_ok hd).congr rfl rfl
  · cases e.symm.trans h
    exact hstart.after_dmaStep_stopped hd

/-- A `STEP` keeps the transfer's page, refused, completed or ended by a fault (R151, R156). -/
theorem TransferFrom.after_step (h : TransferFrom page s) (hs : exec .step s = .next t) :
    TransferFrom page t := by
  have hvideo : TransferFrom page (videoTick (beginCommand s)) :=
    h.congr (videoTick_dmaSrc _) (videoTick_dmaIdx _)
  rcases runEffect_cases tick s with ⟨-, e⟩ | ⟨-, u, htick, e⟩ | ⟨-, u, htick, e⟩ <;> cases e.symm.trans hs
  · exact h
  · obtain ⟨w, hd, rfl⟩ := tick_ok htick
    exact (hvideo.after_dmaStep_ok hd).congr rfl rfl
  · exact hvideo.after_dmaStep_stopped (tick_stopped htick)

theorem TransferFrom.after_stepN {n : Nat} (h : TransferFrom page s) (hs : stepN n s = .next t) :
    TransferFrom page t := by
  induction n generalizing t with
  | zero =>
    cases hs
    exact h
  | succ k ih =>
    rw [stepN] at hs
    split at hs
    · exact (ih ‹_›).after_step hs
    · cases hs
    · cases hs

theorem exec_fetchDma (hf : s.fault = false) :
    exec .fetchDma s = .next { s with response := byteResponse (dmaPageOf s.dmaSrc) } := runFetch_of_read hf rfl

/-- Settles O33: a trigger begins at the first byte of its page and every `STEP` after it moves source and index
together, so the high byte of the source stays the page. -/
theorem dmaRegisterReadsTheSourcePage : Obligations.DmaRegisterReadsTheSourcePage := by
  refine ⟨fun s hf => ?_, fun s t page n hf hrun hft => ?_, exec_fetchDma rfl⟩
  · rw [exec_fetchDma hf, dmaPageOf_eq]
  · unfold dmaThenSteps at hrun
    split at hrun
    · have hpage := ((transferFrom_of_storeDma hf ‹_›).after_stepN hrun).dmaPageOf_eq
      rw [exec_fetchDma hft, hpage]
    · cases hrun
    · cases hrun

end Sys2Proof.Machine
end

section
/-! PROOFS. The command word and the response word: encoding and decoding, the fields of both words, the step that runs
the word presented first, and the commands that are refused. -/

namespace Sys2Proof

/-! ### The word of a `FETCH` or a `STORE` -/

/-- The address in the command word of an operation: the operand of one that a window selects, and the one address of a
register (R95, R230). -/
def Target.address (x : Target) (a : Addr) : Addr :=
  match x with
  | .rom | .vram | .cram | .wram | .echo | .oam | .zram | .ioShadow | .unmapped => a
  | .p1 => ioAddr offP1
  | .div => ioAddr offDiv
  | .tima => ioAddr offTima
  | .tma => ioAddr offTma
  | .tac => ioAddr offTac
  | .irqFlag => ioAddr offIf
  | .ctrl => ioAddr offCtrl
  | .stat => ioAddr offStat
  | .scy => ioAddr offScy
  | .scx => ioAddr offScx
  | .ly => ioAddr offLy
  | .lyc => ioAddr offLyc
  | .dma => ioAddr offDma
  | .pal0 => ioAddr offPal0
  | .pal1 => ioAddr offPal1
  | .pal2 => ioAddr offPal2
  | .wy => ioAddr offWy
  | .wx => ioAddr offWx
  | .ie => 0xffff

theorem encode_fetchOf (x : Target) (a : Addr) : encode (fetchOf x a) = CommandWord.mk 1 (x.address a) 0 := by
  cases x <;> rfl

theorem encode_storeOf (x : Target) (a : Addr) (v : Byte) :
    encode (storeOf x a v) = CommandWord.mk 2 (x.address a) v := by
  cases x <;> rfl

/-- A register's operation has no address of its own (R98). -/
theorem fetchOf_address (x : Target) (a : Addr) : fetchOf x (x.address a) = fetchOf x a := by
  cases x <;> rfl

theorem storeOf_address (x : Target) (a : Addr) (v : Byte) : storeOf x (x.address a) v = storeOf x a v := by
  cases x <;> rfl

/-- The address in the word of a register is the register's: the I/O offsets select it (R230, D9). -/
theorem covers_address {x : Target} {a : Addr} (h : (fetchOf x a).wellFormed = true) :
    x.covers (x.address a) = true := by
  cases x
  case rom | vram | cram | wram | echo | oam | zram | ioShadow | unmapped => exact h
  all_goals rfl

theorem wellFormed_storeOf (x : Target) (a : Addr) (v : Byte) :
    (storeOf x a v).wellFormed = (fetchOf x a).wellFormed := by
  cases x <;> rfl

/-! ### Decoding the encoding -/

theorem decode_encode_fetchOf {x : Target} {a : Addr} (h : (fetchOf x a).wellFormed = true) :
    decode (encode (fetchOf x a)) = fetchOf x a := by
  rw [encode_fetchOf, decode_mk_fetch, targetOf_eq (covers_address h), fetchOf_address]

theorem decode_encode_storeOf {x : Target} {a : Addr} {v : Byte} (h : (storeOf x a v).wellFormed = true) :
    decode (encode (storeOf x a v)) = storeOf x a v := by
  rw [wellFormed_storeOf] at h
  rw [encode_storeOf, decode_mk_store, targetOf_eq (covers_address h), storeOf_address]

/-- Settles O3: the command code survives the word, and the address in the word of a `FETCH` or a `STORE` selects the
target it was encoded for. -/
theorem decodeInvertsEncode : Obligations.DecodeInvertsEncode := by
  intro i h
  rcases Machine.instr_cases i with (rfl | rfl) | rfl | rfl | rfl | rfl | ⟨x, a, rfl⟩ | ⟨x, a, v, rfl⟩
  iterate 6 · decide
  · exact decode_encode_fetchOf h
  · exact decode_encode_storeOf h

/-- Settles O4: the target an address selects covers it, and the other operations have no address. -/
theorem decodedOperationsAreWellFormed : Obligations.DecodedOperationsAreWellFormed := Machine.decode_wellFormed

/-- Settles O2: the 62 words are evaluated. -/
theorem publishedWordsDecode : Obligations.PublishedWordsDecode := by
  unfold Obligations.PublishedWordsDecode
  decide

/-- Settles O5: by the command code, of which only 1 and 2 read the address and only 2 the byte. -/
theorem unusedFieldsDoNotMatter : Obligations.UnusedFieldsDoNotMatter := by
  intro cw cw' hop haddr hdata
  unfold decode
  rw [← hop]
  by_cases hfetch : CommandWord.op cw = 1
  · rw [← haddr (.inl hfetch), if_pos hfetch, if_pos hfetch]
  · by_cases hstore : CommandWord.op cw = 2
    · rw [← haddr (.inr hstore), ← hdata hstore]
    · rw [if_neg hfetch, if_neg hfetch, if_neg hstore, if_neg hstore]

end Sys2Proof

namespace Sys2Proof.Machine

/-! ### The response word -/

/-- A response word from its fields (R93). -/
def responseWordOf (refused fault flip diag valid : Bool) (src : BitVec 3) (rdata : Byte) : ResponseWord :=
  BitVec.ofBool refused ++ BitVec.ofBool fault ++ BitVec.ofBool flip ++ BitVec.ofBool diag ++ BitVec.ofBool valid ++
    src ++ 0#1 ++ rdata

theorem responseWordOf_bits (refused fault flip diag valid : Bool) (src : BitVec 3) (rdata : Byte) :
    let w := responseWordOf refused fault flip diag valid src rdata
    w.getLsbD 16 = refused ∧ w.getLsbD 15 = fault ∧ w.getLsbD 14 = flip ∧ w.getLsbD 13 = diag ∧
      w.getLsbD 12 = valid ∧ w.getLsbD 8 = false := by
  simp only [responseWordOf, BitVec.getLsbD_append]
  simp

theorem responseWordOf_source (refused fault flip diag valid : Bool) (src : BitVec 3) (rdata : Byte) :
    (responseWordOf refused fault flip diag valid src rdata).extractLsb' 9 3 = src := by
  ext i hi
  simp only [responseWordOf, BitVec.getElem_extractLsb', BitVec.getLsbD_append]
  simp [show ¬ 9 + i < 8 by omega, show ¬ 9 + i - 8 < 1 by omega, show 9 + i - 8 - 1 = i by omega, hi]

theorem responseWordOf_rdata (refused fault flip diag valid : Bool) (src : BitVec 3) (rdata : Byte) :
    (responseWordOf refused fault flip diag valid src rdata).extractLsb' 0 8 = rdata :=
  BitVec.extractLsb'_append_eq_right

/-- The code of the source a response names, 0 when it names none (R93, R105). -/
def Response.sourceBits (r : Response) : BitVec 3 :=
  match r.irq with
  | some src => sourceCode src
  | none => 0

theorem Response.word_eq (r : Response) :
    r.word = responseWordOf r.refused r.fault r.flip r.diag.isSome r.irq.isSome r.sourceBits r.rdata := rfl

/-- Settles O7: the fields are read back from the word they are put together in. -/
theorem responseWordFields : Obligations.ResponseWordFields := by
  refine ⟨⟨rfl, rfl, rfl, rfl, rfl⟩, fun r => ?_⟩
  rw [Response.word_eq]
  obtain ⟨hrefused, hfault, hflip, hdiag, hvalid, hzero⟩ := responseWordOf_bits r.refused r.fault r.flip
    r.diag.isSome r.irq.isSome r.sourceBits r.rdata
  refine ⟨hrefused, hfault, hflip, hdiag, hvalid, hzero, fun src h => ?_, fun h => ?_, responseWordOf_rdata ..⟩
  · rw [responseWordOf_source, Response.sourceBits, h]
  · rw [responseWordOf_source, Response.sourceBits, h]

/-! ### The step, and the commands that are refused -/

/-- Settles O1: a step takes the head of the port, and what a word decodes to is well formed. -/
theorem stepExecutesThePresentedCommand : Obligations.StepExecutesThePresentedCommand := by
  refine ⟨fun s cw rest h => ⟨?_, decode_wellFormed cw⟩, fun s h => ?_⟩
  · rw [step, takeCommand, h]
  · rw [step, takeCommand, h]

/-- Settles O11. -/
theorem faultedBlockRefusesEveryCommand : Obligations.FaultedBlockRefusesEveryCommand := by
  intro i s hw hf
  rw [exec_of_fault hw hf, refuse, hf]
  rfl

/-- Settles O12. -/
theorem reservedCodesAreRefused : Obligations.ReservedCodesAreRefused := fun s =>
  ⟨exec_of_reserved (.inl rfl) s, exec_of_reserved (.inr rfl) s⟩

end Sys2Proof.Machine
end

section
/-! PROOFS. Which command can assert which field of the response (R93): what each shared operation writes to the response
port, and then every command at once. -/

namespace Sys2Proof.Machine

variable {i : Instr} {s t : State}

/-! ### What the shared operations report -/

/-- A tick reports nothing but a `Flip` (R121, R125). -/
theorem videoTick_beginCommand_response (s : State) :
    ∃ flip, (videoTick (beginCommand s)).response = { Response.quiet with flip := flip } := by
  rcases videoTick_flip (beginCommand s) with ⟨-, e, -⟩ | ⟨-, e, -⟩
  · exact ⟨true, e⟩
  · exact ⟨false, e⟩

/-- A read asserts the diagnostic only from a hole of the map (R190, R212). -/
theorem readTarget_ok_diag {x : Target} {a : Addr} {b : Byte} (h : readTarget x a s = .ok b t) (hx : x ≠ .unmapped) :
    t.response.diag = s.response.diag := by
  rcases readTarget_cases x a s with ⟨_, e⟩ | ⟨hhole, _⟩ | ⟨_, _, _, e⟩ | ⟨_, _, e⟩
  · cases e.symm.trans h; rfl
  · exact absurd hhole hx
  · cases e.symm.trans h; rfl
  · cases e.symm.trans h

/-- The next DMA step moves a byte from a hole of the map. -/
def DmaReadsHole (s : State) : Prop := ¬ dmaLen ≤ s.dmaIdx ∧ targetOf s.dmaSrc = .unmapped

/-- A DMA step asserts the diagnostic only when its source lies in a hole (R151, R155). -/
theorem dmaStep_ok_diag (h : dmaStep s = .ok () t) (hhole : ¬ DmaReadsHole s) :
    t.response.diag = s.response.diag := by
  rcases dmaStep_cases s with ⟨-, e⟩ | ⟨hlt, -, b, u, hb, e⟩ | ⟨-, -, -, e⟩ | ⟨-, -, -, b, u, -, e⟩ <;>
    cases e.symm.trans h
  · rfl
  · rw [advanceDma_response, setOamByte_response]
    exact readTarget_ok_diag hb fun hx => hhole ⟨hlt, hx⟩

/-- A DMA step that faults reports the violation, and the diagnostic only when its source lies in a hole (R156, R291). -/
theorem dmaStep_stopped_report (h : dmaStep s = .stopped t) :
    t.response.violation.isSome = true ∧ (¬ DmaReadsHole s → t.response.diag = s.response.diag) := by
  rcases dmaStep_cases s with ⟨-, e⟩ | ⟨-, -, b, u, -, e⟩ | ⟨-, -, -, e⟩ | ⟨hlt, -, -, b, u, hb, e⟩ <;>
    cases e.symm.trans h
  · exact ⟨rfl, fun _ => rfl⟩
  · refine ⟨rfl, fun hhole => ?_⟩
    rw [raiseViolation_response]
    exact readTarget_ok_diag hb fun hx => hhole ⟨hlt, hx⟩

/-- The first byte of a page lies in no hole of the map (R150, R192). -/
theorem targetOf_dmaSourceOf_ne_unmapped (page : Byte) : targetOf (dmaSourceOf page) ≠ .unmapped := by
  rw [Ne, targetOf_eq_iff]
  have hpage := toNat_dmaSourceOf page
  simp only [Target.covers, Bool.or_eq_true, inRange_iff, BitVec.reduceToNat]
  omega

theorem storeOf_response {x : Target} {a : Addr} {v : Byte} (hx : x ≠ .oam ∧ x ≠ .dma ∧ x ≠ .vram)
    (h : bodyOf (storeOf x a v) s = .ok 0 t) (hhole : x ≠ .unmapped) : t.response = s.response := by
  obtain ⟨hoam, hdma, hvram⟩ := hx
  cases x
  case oam => exact absurd rfl hoam
  case dma => exact absurd rfl hdma
  case vram => exact absurd rfl hvram
  case unmapped => exact absurd rfl hhole
  all_goals cases h; rfl

/-! ### What each command reports -/

/-- What the response of a command that was not refused reports, and which command can assert which of its fields. -/
structure Reported (i : Instr) (s t : State) : Prop where
  accepted : t.response.refused = false
  fault : t.response.fault = t.fault
  violation : t.response.violation.isSome = t.fault
  flip : t.response.flip = true → i = .step
  irq : t.response.irq.isSome = true → i = .irqPeek ∨ i = .irqAck
  rdata : t.response.rdata ≠ 0 → ∃ x a, i = fetchOf x a
  diag : t.response.diag.isSome = true → (∃ a, i = .fetchUnmapped a) ∨ (∃ a v, i = .storeUnmapped a v) ∨
    (i = .step ∧ DmaReadsHole s)

/-- A command that ended well: no fault, and no field asserted but by a command that may. -/
theorem Reported.of_completed {flip : Bool} {diag : Option Diag} {irq : Option Source} {rdata : Byte}
    (hr : t.response = { Response.quiet with flip := flip, diag := diag, irq := irq, rdata := rdata })
    (hf : t.fault = false) (hflip : flip = true → i = .step) (hirq : irq ≠ none → i = .irqPeek ∨ i = .irqAck)
    (hrdata : rdata ≠ 0 → ∃ x a, i = fetchOf x a)
    (hdiag : diag ≠ none → (∃ a, i = .fetchUnmapped a) ∨ (∃ a v, i = .storeUnmapped a v) ∨
      (i = .step ∧ DmaReadsHole s)) : Reported i s t := by
  constructor <;> rw [hr]
  case flip => exact hflip
  case irq => exact fun h => hirq (Option.isSome_iff_ne_none.1 h)
  case rdata => exact hrdata
  case diag => exact fun h => hdiag (Option.isSome_iff_ne_none.1 h)
  case accepted => rfl
  case fault => exact hf.symm
  case violation => exact hf.symm

theorem Reported.of_quiet (hr : t.response = Response.quiet) (hf : t.fault = false) : Reported i s t :=
  .of_completed hr hf (by simp) (by simp) (by simp) (by simp)

/-- A command that `OamAccessViolation` ended. -/
theorem Reported.of_violation {flip : Bool} {diag : Option Diag} {violation : Option OamViolation}
    (hr : t.response = { Response.quiet with fault := true, flip := flip, diag := diag, violation := violation })
    (hf : t.fault = true) (hv : violation.isSome = true) (hflip : flip = true → i = .step)
    (hdiag : diag ≠ none → i = .step ∧ DmaReadsHole s) : Reported i s t := by
  constructor <;> rw [hr]
  case flip => exact hflip
  case diag => exact fun h => .inr (.inr (hdiag (Option.isSome_iff_ne_none.1 h)))
  case accepted => rfl
  case fault => exact hf.symm
  case violation => exact hv.trans hf.symm
  all_goals simp [Response.quiet]

/-- `raise` at a quiet response (R291). -/
theorem Reported.of_raiseViolation (k : OamAccess) (a : Addr) (s : State) :
    Reported i s (raiseViolation k a (beginCommand s)) :=
  .of_violation (flip := false) (diag := none) rfl rfl rfl (by simp) (by simp)

/-- The tick before the DMA step of a `STEP` leaves the transfer alone (R200). -/
theorem dmaReadsHole_videoTick : DmaReadsHole (videoTick (beginCommand s)) ↔ DmaReadsHole s := by
  rw [DmaReadsHole, DmaReadsHole, videoTick_dmaIdx, videoTick_dmaSrc]
  rfl

theorem not_dmaReadsHole_trigger (page : Byte) (s : State) :
    ¬ DmaReadsHole { s with dmaIdx := 0, dmaSrc := dmaSourceOf page } :=
  fun h => targetOf_dmaSourceOf_ne_unmapped page h.2

theorem Reported.of_step {u : State} (hf : s.fault = false) (h : dmaStep (videoTick (beginCommand s)) = .ok () u) :
    Reported .step s (withData 0 (timerTick u)) := by
  obtain ⟨flip, hflip⟩ := videoTick_beginCommand_response s
  obtain ⟨hstate, hresponse, -⟩ := dmaStep_ok_frame h
  have hdiag := dmaStep_ok_diag h
  rw [hflip] at hresponse hdiag
  have hfault : u.fault = false := by rw [hstate, videoTick_fault]; exact hf
  refine .of_completed (flip := flip) (diag := u.response.diag) (irq := none) (rdata := 0) ?_ hfault (fun _ => rfl)
    (by simp) (by simp) fun hne => .inr (.inr ⟨rfl, ?_⟩)
  · rw [withData, timerTick_response, hresponse]; rfl
  · by_contra hhole
    exact hne (hdiag (dmaReadsHole_videoTick.not.2 hhole))

theorem Reported.of_step_fault (h : dmaStep (videoTick (beginCommand s)) = .stopped t) : Reported .step s t := by
  obtain ⟨flip, hflip⟩ := videoTick_beginCommand_response s
  obtain ⟨hstate, -, hresponse⟩ := dmaStep_stopped_frame h
  obtain ⟨hviolation, hdiag⟩ := dmaStep_stopped_report h
  rw [hflip] at hresponse hdiag
  refine .of_violation hresponse (by rw [hstate]) hviolation (fun _ => rfl) fun hne => ⟨rfl, ?_⟩
  by_contra hhole
  exact hne (hdiag (dmaReadsHole_videoTick.not.2 hhole))

theorem Reported.of_storeDma {v : Byte} {u : State} (hf : s.fault = false)
    (h : dmaTrigger v (beginCommand s) = .ok () u) : Reported (.storeDma v) s (withData 0 u) := by
  obtain ⟨hstate, hresponse, -⟩ := dmaTrigger_ok_frame h
  have hdiag : u.response.diag = none := dmaStep_ok_diag h (not_dmaReadsHole_trigger v _)
  refine .of_quiet ?_ ?_
  · rw [withData, hresponse, hdiag]; rfl
  · rw [withData, hstate]; exact hf

theorem Reported.of_storeDma_fault {v : Byte} (h : dmaTrigger v (beginCommand s) = .stopped t) :
    Reported (.storeDma v) s t := by
  obtain ⟨hstate, -, hresponse⟩ := dmaTrigger_stopped_frame h
  obtain ⟨hviolation, hdiag⟩ := dmaStep_stopped_report h
  refine .of_violation hresponse (by rw [hstate]) hviolation (by simp [Response.quiet]) fun hne => ?_
  exact absurd (hdiag (not_dmaReadsHole_trigger v _)) hne

theorem Reported.of_fetch {x : Target} {a : Addr} {b : Byte} {u : State} (hf : s.fault = false)
    (h : readTarget x a (beginCommand s) = .ok b u) : Reported (fetchOf x a) s (withData b u) := by
  obtain ⟨hstate, hresponse⟩ := readTarget_ok_frame h
  refine .of_completed (flip := false) (diag := u.response.diag) (irq := none) (rdata := b) ?_ ?_ (by simp) (by simp)
    (fun _ => ⟨x, a, rfl⟩) fun hne => .inl ⟨a, ?_⟩
  · rw [withData, hresponse]; rfl
  · rw [withData, hstate]; exact hf
  · by_cases hx : x = .unmapped
    · rw [hx]; rfl
    · exact absurd (readTarget_ok_diag h hx) hne

theorem Reported.of_store {x : Target} {a : Addr} {v : Byte} (hf : s.fault = false)
    (hx : x ≠ .oam ∧ x ≠ .dma ∧ x ≠ .vram) (h : bodyOf (storeOf x a v) (beginCommand s) = .ok 0 t) :
    Reported (storeOf x a v) s t := by
  have hfault : t.fault = false := by rw [(storeOf_frame hx h).1]; exact hf
  by_cases hhole : x = .unmapped
  · subst hhole
    cases h
    exact .of_completed (flip := false) (irq := none) (rdata := 0) rfl hf (by simp) (by simp) (by simp)
      fun _ => .inr (.inl ⟨a, v, rfl⟩)
  · exact .of_quiet (storeOf_response hx h hhole) hfault

theorem not_reserved_storeOf (x : Target) (a : Addr) (v : Byte) : ¬ Reserved (storeOf x a v) := by
  cases x <;> simp [storeOf, Reserved]

/-- A command is refused, or it is neither reserved nor turned away and reports as `Reported` says. -/
theorem exec_reported (hexec : exec i s = .next t) :
    ((Reserved i ∨ s.fault = true) ∧ t = refuse s) ∨ (¬ Reserved i ∧ s.fault = false ∧ Reported i s t) := by
  cases exec_does hexec with
  | refuse h => exact .inl ⟨h, rfl⟩
  | step hf h => exact .inr ⟨by simp [Reserved], hf, .of_step hf h⟩
  | stepFault hf h => exact .inr ⟨by simp [Reserved], hf, .of_step_fault h⟩
  | irqPeek hf =>
    exact .inr ⟨by simp [Reserved], hf,
      .of_completed (flip := false) (diag := none) (rdata := 0) rfl hf (by simp) (by simp) (by simp) (by simp)⟩
  | irqAck hf =>
    exact .inr ⟨by simp [Reserved], hf, .of_completed (flip := false) (diag := none) (rdata := 0) rfl
      ((ackSelected_fault ..).trans hf) (by simp) (by simp) (by simp) (by simp)⟩
  | reset hf => exact .inr ⟨by simp [Reserved], hf, .of_quiet rfl hf⟩
  | fetch x a hf h => exact .inr ⟨not_reserved_fetchOf x a, hf, .of_fetch hf h⟩
  | fetchOamFault a hf _ => exact .inr ⟨by simp [Reserved], hf, .of_raiseViolation ..⟩
  | storeOam a v hf _ =>
    exact .inr ⟨by simp [Reserved], hf, .of_quiet (setOamByte_response ..) ((setOamByte_fault ..).trans hf)⟩
  | storeOamFault a v hf _ => exact .inr ⟨by simp [Reserved], hf, .of_raiseViolation ..⟩
  | storeDma v hf h => exact .inr ⟨by simp [Reserved], hf, .of_storeDma hf h⟩
  | storeDmaFault v hf h => exact .inr ⟨by simp [Reserved], hf, .of_storeDma_fault h⟩
  | storeVram a v b n hf => exact .inr ⟨by simp [Reserved], hf, .of_quiet rfl hf⟩
  | store x a v hf hx h => exact .inr ⟨not_reserved_storeOf x a v, hf, .of_store hf hx h⟩

theorem dmaReadsHole_iff : DmaReadsHole s ↔ s.dmaIdx < 160 ∧ Target.unmapped.covers s.dmaSrc = true := by
  rw [DmaReadsHole, targetOf_eq_iff, BitVec.not_le]
  rfl

/-- Settles O14: a refused command asserts `refused` alone, with the fault flag; every other command reports what its
shared operations do. -/
theorem responseFieldsBelongToTheirCommands : Obligations.ResponseFieldsBelongToTheirCommands := by
  intro i s t h
  rcases exec_reported h with ⟨hrefused, rfl⟩ | ⟨hreserved, hf, hr⟩
  · refine ⟨⟨fun _ => or_assoc.1 hrefused, fun _ => rfl⟩, rfl, ?_⟩
    simp +contextual [refusedResponse, Response.quiet]
  · refine ⟨⟨fun hrefused => ?_, fun hwhy => ?_⟩, hr.fault, hr.flip, hr.irq, hr.rdata, fun hdiag => ?_, ?_⟩
    · exact absurd hrefused (Bool.eq_false_iff.1 hr.accepted)
    · rcases or_assoc.2 hwhy with hwhy | hfault
      · exact absurd hwhy hreserved
      · exact absurd hfault (Bool.eq_false_iff.1 hf)
    · rw [← dmaReadsHole_iff]
      exact hr.diag hdiag
    · rw [hr.violation]
      exact ⟨fun hfault => ⟨hf, hfault⟩, And.right⟩

end Sys2Proof.Machine
end

section
/-! PROOFS. The pseudo-commands of R104: what a sequence of `STEP`s does, what successive acknowledges answer, and from
these that each pseudo-command is the commands it stands for and that the two waiting ones end. -/

namespace Sys2Proof.Machine

variable {s t u : State}

/-! ### Sequences of `STEP`s -/

theorem stepN_succ {k : Nat} (h : stepN k s = .next t) : stepN (k + 1) s = exec .step t := by
  rw [stepN, h]

theorem stepN_answers (n : Nat) (s : State) : ∃ t, stepN n s = .next t := by
  induction n with
  | zero => exact ⟨s, rfl⟩
  | succ k ih =>
    obtain ⟨t, ht⟩ := ih
    rw [stepN_succ ht]
    exact exec_answers rfl t

/-- The first of `k + 1` ticks taken by itself. -/
theorem stepN_succ_of_first (h : exec .step s = .next t) (k : Nat) : stepN (k + 1) s = stepN k t := by
  induction k with
  | zero => exact h
  | succ k ih =>
    obtain ⟨u, hu⟩ := stepN_answers k t
    rw [stepN_succ (ih.trans hu), stepN_succ hu]

/-- No `STEP` reads the response port. -/
theorem stepN_succ_response (k : Nat) (s : State) (r : Response) :
    stepN (k + 1) { s with response := r } = stepN (k + 1) s := by
  obtain ⟨t, ht⟩ := exec_answers (i := .step) rfl s
  rw [stepN_succ_of_first ht, stepN_succ_of_first ((exec_response _ s r).trans ht)]

/-- The fault flag stays set (R292). -/
theorem fault_before_step (h : exec .step s = .next t) (hf : t.fault = false) : s.fault = false := by
  cases hs : s.fault
  · rfl
  · cases (exec_of_fault rfl hs).symm.trans h
    exact hs.symm.trans hf

theorem fault_before_stepN {n : Nat} (h : stepN n s = .next t) (hf : t.fault = false) : s.fault = false := by
  induction n generalizing t with
  | zero => cases h; exact hf
  | succ k ih =>
    obtain ⟨u, hu⟩ := stepN_answers k s
    exact ih hu (fault_before_step ((stepN_succ hu).symm.trans h) hf)

/-- A `STEP` that is not refused moves the position as its tick does, also when its DMA step faults (R156, R200). -/
theorem exec_step_position (hf : s.fault = false) (h : exec .step s = .next t) :
    t.line = (videoTick (beginCommand s)).line ∧ t.col = (videoTick (beginCommand s)).col := by
  rcases runEffect_cases tick s with ⟨hfault, -⟩ | ⟨-, u, htick, e⟩ | ⟨-, u, htick, e⟩
  · exact absurd hfault (Bool.eq_false_iff.1 hf)
  · cases e.symm.trans h
    obtain ⟨w, hd, rfl⟩ := tick_ok htick
    obtain ⟨hstate, -⟩ := dmaStep_ok_frame hd
    rw [hstate]
    exact ⟨rfl, rfl⟩
  · cases e.symm.trans h
    obtain ⟨hstate, -⟩ := dmaStep_stopped_frame (tick_stopped htick)
    rw [hstate]
    exact ⟨rfl, rfl⟩

theorem exec_step_rasterPos (hf : s.fault = false) (hr : RasterInRange s) (h : exec .step s = .next t) :
    RasterInRange t ∧ rasterPos t = (rasterPos s + 1) % 70680 := by
  obtain ⟨hline, hcol⟩ := exec_step_position hf h
  rw [rasterInRange_congr hline hcol, rasterPos_congr hline hcol]
  exact videoTick_rasterPos (s := beginCommand s) hr

/-- `n` ticks without a fault move the position on by `n`, around the frame (R121, R122). -/
theorem stepN_rasterPos {n : Nat} (hr : RasterInRange s) (h : stepN n s = .next t) (hf : t.fault = false) :
    RasterInRange t ∧ rasterPos t = (rasterPos s + n) % 70680 := by
  induction n generalizing t with
  | zero =>
    cases h
    obtain ⟨hline, hcol⟩ := rasterInRange_iff.1 hr
    refine ⟨hr, ?_⟩
    unfold rasterPos
    omega
  | succ k ih =>
    obtain ⟨u, hu⟩ := stepN_answers k s
    have hstep : exec .step u = .next t := (stepN_succ hu).symm.trans h
    have huf := fault_before_step hstep hf
    obtain ⟨hru, hpos⟩ := ih hu huf
    obtain ⟨hrt, hpos'⟩ := exec_step_rasterPos huf hru hstep
    refine ⟨hrt, ?_⟩
    rw [hpos', hpos]
    omega

/-- With no transfer in progress a `STEP` cannot fault (R151). -/
theorem exec_step_of_idle (hf : s.fault = false) (hidle : dmaLen ≤ s.dmaIdx) (h : exec .step s = .next t) :
    t.fault = false ∧ t.dmaIdx = s.dmaIdx := by
  have hd : dmaStep (videoTick (beginCommand s)) = .ok () (videoTick (beginCommand s)) :=
    if_pos (by rw [videoTick_dmaIdx]; exact hidle)
  have hstep : exec .step s = _ := runEffect_of_ok hf (tick_of_dmaStep_ok hd)
  cases hstep.symm.trans h
  exact ⟨(videoTick_fault _).trans hf, videoTick_dmaIdx _⟩

theorem stepN_of_idle {n : Nat} (hf : s.fault = false) (hidle : dmaLen ≤ s.dmaIdx) (h : stepN n s = .next t) :
    t.fault = false ∧ t.dmaIdx = s.dmaIdx := by
  induction n generalizing t with
  | zero => cases h; exact ⟨hf, rfl⟩
  | succ k ih =>
    obtain ⟨u, hu⟩ := stepN_answers k s
    obtain ⟨huf, huidx⟩ := ih hu
    obtain ⟨htf, htidx⟩ := exec_step_of_idle huf (by rwa [huidx]) ((stepN_succ hu).symm.trans h)
    exact ⟨htf, htidx.trans huidx⟩

/-! ### `STEPN`, `DMA` and `EI` -/

theorem videoTick_beginCommand_flips (s : State) :
    (videoTick (beginCommand s)).flips = s.flips + (videoTick (beginCommand s)).response.flip.toNat := by
  rcases videoTick_flip (beginCommand s) with ⟨-, hresponse, hflips, -⟩ | ⟨-, hresponse, hflips, -⟩ <;>
    rw [hresponse, hflips] <;> rfl

/-- The display receives a `Flip` exactly when the response of a `STEP` shows one (R93, R125). -/
theorem exec_step_flips (h : exec .step s = .next t) : t.flips = s.flips + t.response.flip.toNat := by
  rcases runEffect_cases tick s with ⟨-, e⟩ | ⟨-, u, htick, e⟩ | ⟨-, u, htick, e⟩ <;> cases e.symm.trans h
  · rfl
  · obtain ⟨w, hd, rfl⟩ := tick_ok htick
    obtain ⟨hstate, hresponse, -⟩ := dmaStep_ok_frame hd
    have hflips : w.flips = (videoTick (beginCommand s)).flips := by rw [hstate]
    have hflip : w.response.flip = (videoTick (beginCommand s)).response.flip := by rw [hresponse]
    exact hflips.trans (hflip ▸ videoTick_beginCommand_flips s)
  · obtain ⟨hstate, -, hresponse⟩ := dmaStep_stopped_frame (tick_stopped htick)
    have hflips : t.flips = (videoTick (beginCommand s)).flips := by rw [hstate]
    have hflip : t.response.flip = (videoTick (beginCommand s)).response.flip := by rw [hresponse]
    exact hflips.trans (hflip ▸ videoTick_beginCommand_flips s)

theorem issueAll_singleton {cw : CommandWord} (h : exec (decode cw) s = .next t) :
    issueAll [cw] s = some (t, [t.response]) := by
  rw [issueAll_cons (issue_of_exec h)]
  rfl

/-- `n` words of `STEP` do what `n` ticks do, and answer with the responses of those ticks (R104). -/
theorem issueAll_steps (n : Nat) (s : State) :
    ∃ t rs, issueAll (List.replicate n stepWord) s = some (t, rs) ∧ stepN n s = .next t ∧ rs.length = n ∧
      (∀ k u, k < n → stepN (k + 1) s = .next u → rs[k]? = some u.response) ∧
      t.flips = s.flips + rs.countP (fun r => r.flip) := by
  induction n with
  | zero => exact ⟨s, [], rfl, rfl, rfl, by simp, rfl⟩
  | succ n ih =>
    obtain ⟨t, rs, hrun, ht, hlength, hresponses, hflips⟩ := ih
    obtain ⟨u, hu⟩ := exec_answers (i := .step) rfl t
    have hlast : issueAll [stepWord] t = some (u, [u.response]) :=
      issueAll_singleton (by rw [decode_stepWord, hu])
    refine ⟨u, rs ++ [u.response], ?_, (stepN_succ ht).trans hu, by simp [hlength], fun k w hk hw => ?_, ?_⟩
    · rw [List.replicate_succ']
      exact issueAll_append hrun hlast
    · rcases Nat.lt_succ_iff_lt_or_eq.1 hk with hlt | rfl
      · rw [List.getElem?_append_left (by omega)]
        exact hresponses k w hlt hw
      · cases ((stepN_succ ht).trans hu).symm.trans hw
        simp [← hlength]
    · rw [exec_step_flips hu, hflips, List.countP_append, List.countP_singleton, Nat.add_assoc]
      cases u.response.flip <;> rfl

/-- Settles O59: `STEPN` by induction on the number of words, `DMA` and `EI` by the one word each stands for. -/
theorem pseudoCommandsExpandToCommands : Obligations.PseudoCommandsExpandToCommands := by
  intro s
  refine ⟨fun n => issueAll_steps n s, fun p => ?_, fun m => ?_⟩
  · obtain ⟨t, ht⟩ := exec_answers (i := .storeDma p) rfl s
    exact ⟨t, ht, issueAll_singleton (by rw [decode_dmaWord, ht])⟩
  · obtain ⟨t, ht⟩ := exec_answers (i := .storeIe m) rfl s
    exact ⟨t, ht, issueAll_singleton (by rw [decode_eiWord, ht])⟩

/-! ### `WAITLINE` -/

theorem exec_fetchLy (hf : s.fault = false) :
    exec .fetchLy s = .next { s with response := byteResponse s.line } := runFetch_of_read hf rfl

theorem fetchReturned_byteResponse (n b : Byte) : fetchReturned n (byteResponse b) = decide (b = n) := rfl

/-- After `k` ticks the block is on line `n`, for the first time since the first of them. -/
structure FirstOnLine (n : Byte) (k : Nat) (s u : State) : Prop where
  pos : 1 ≤ k
  runs : stepN k s = .next u
  line_eq : u.line = n
  line_ne : ∀ j w, 1 ≤ j → j < k → stepN j s = .next w → w.line ≠ n

/-- After a tick that does not reach the line, the wait is the same but for that tick and the `FETCH` after it. -/
theorem FirstOnLine.after_step {n : Byte} {k : Nat} (h : FirstOnLine n (k + 2) s u) (ht : exec .step s = .next t)
    (r : Response) : FirstOnLine n (k + 1) { t with response := r } u where
  pos := by omega
  runs := by rw [stepN_succ_response, ← stepN_succ_of_first ht, h.runs]
  line_eq := h.line_eq
  line_ne j w hj hjk hw := by
    obtain ⟨i, rfl⟩ := Nat.exists_eq_add_of_le' hj
    rw [stepN_succ_response, ← stepN_succ_of_first ht] at hw
    exact h.line_ne (i + 2) w (by omega) (by omega) hw

/-- `WAITLINE` ends at the first tick that leaves the line, when it is allowed as many and none of them faults. -/
theorem waitLine_ends {n : Byte} {k bound : Nat} (h : FirstOnLine n k s u) (hf : u.fault = false) (hk : k ≤ bound) :
    ∃ rs, waitLine n bound s = some ({ u with response := byteResponse n }, rs) ∧ rs.length = 2 * k := by
  induction k generalizing s bound with
  | zero => exact absurd h.pos (by decide)
  | succ k ih =>
    obtain ⟨bound, rfl⟩ := Nat.exists_eq_add_of_le' hk
    obtain ⟨t, ht⟩ := exec_answers (i := .step) rfl s
    have htf : t.fault = false := fault_before_stepN ((stepN_succ_of_first ht k).symm.trans h.runs) hf
    rw [← Nat.add_assoc, waitLine_succ ht (exec_fetchLy htf)]
    simp only [fetchReturned_byteResponse, decide_eq_true_eq]
    cases k with
    | zero =>
      cases ht.symm.trans h.runs
      rw [if_pos h.line_eq, h.line_eq]
      exact ⟨_, rfl, rfl⟩
    | succ k =>
      have hne : t.line ≠ n := h.line_ne 1 t le_rfl (by omega) ht
      obtain ⟨rs, hrun, hlength⟩ := ih (h.after_step ht _) (bound := bound + (k + 1)) (by omega)
      rw [if_neg hne, hrun]
      refine ⟨_, rfl, ?_⟩
      simp only [List.length_cons, hlength]
      omega

theorem line_eq_of_rasterPos {n : Byte} (h : RasterInRange s) (hpos : rasterPos s = n.toNat * 456) : s.line = n := by
  obtain ⟨-, hcol⟩ := rasterInRange_iff.1 h
  rw [← BitVec.toNat_inj]
  unfold rasterPos at hpos
  omega

/-- Every line of the raster is reached within a frame, if no tick of it faults (R122). -/
theorem exists_firstOnLine {n : Byte} (hr : RasterInRange s) (hn : n ≤ 154)
    (hnofault : ∀ j w, j ≤ 70680 → stepN j s = .next w → w.fault = false) :
    ∃ k u, k ≤ 70680 ∧ FirstOnLine n k s u := by
  classical
  have hn' : n.toNat ≤ 154 := hn
  obtain ⟨hline, hcol⟩ := rasterInRange_iff.1 hr
  obtain ⟨j, hj1, hj2, hj⟩ : ∃ j, 1 ≤ j ∧ j ≤ 70680 ∧ (rasterPos s + j) % 70680 = n.toNat * 456 := by
    unfold rasterPos
    refine ⟨(n.toNat * 456 + 70679 - (s.line.toNat * 456 + s.col.toNat)) % 70680 + 1, by omega, by omega, by omega⟩
  obtain ⟨w, hw⟩ := stepN_answers j s
  obtain ⟨hrw, hpos⟩ := stepN_rasterPos hr hw (hnofault j w hj2 hw)
  have hjline : w.line = n := line_eq_of_rasterPos hrw (hpos.trans hj)
  have hreached : ∃ k, 1 ≤ k ∧ ∃ u, stepN k s = .next u ∧ u.line = n := ⟨j, hj1, w, hw, hjline⟩
  obtain ⟨hk, u, hu, huline⟩ := Nat.find_spec hreached
  have hkj : Nat.find hreached ≤ j := Nat.find_le ⟨hj1, w, hw, hjline⟩
  exact ⟨_, u, hkj.trans hj2, hk, hu, huline,
    fun i v hi hlt hv hvline => Nat.find_min hreached hlt ⟨hi, v, hv, hvline⟩⟩

/-! ### `ACKALL` -/

/-- The enabled and latched sources in the order of `Select()` (R171). -/
def pendingSources (s : State) : List Source :=
  (if s.ie.vblank && s.itVblank then [.vblank] else []) ++ (if s.ie.lcd && s.itLcd then [.lcd] else []) ++
    (if s.ie.timer && s.timer.latch then [.timer] else [])

theorem length_pendingSources_le (s : State) : (pendingSources s).length ≤ 3 := by
  unfold pendingSources
  split_ifs <;> simp

/-- `Select()` gives the first of the pending sources (R171). -/
theorem select_eq_head? (s : State) : select s = (pendingSources s).head? := by
  cases hvblank : s.ie.vblank && s.itVblank
  · cases hlcd : s.ie.lcd && s.itLcd
    · cases htimer : s.ie.timer && s.timer.latch <;> simp [select, latchOf, pendingSources, hvblank, hlcd, htimer]
    · simp [select, latchOf, pendingSources, hvblank, hlcd]
  · simp [select, latchOf, pendingSources, hvblank]

/-- An acknowledge takes the first pending source, and no other (R173). -/
theorem pendingSources_ackSelected (s : State) :
    pendingSources (ackSelected (select s) s) = (pendingSources s).tail := by
  cases hvblank : s.ie.vblank && s.itVblank
  · cases hlcd : s.ie.lcd && s.itLcd
    · cases htimer : s.ie.timer && s.timer.latch
      · simp [select, latchOf, pendingSources, ackSelected, hvblank, hlcd, htimer]
      · simp [select, latchOf, pendingSources, ackSelected, ackLatch, hvblank, hlcd, htimer]
    · simp [select, latchOf, pendingSources, ackSelected, ackLatch, hvblank, hlcd]
  · simp [select, latchOf, pendingSources, ackSelected, ackLatch, hvblank]

theorem exec_irqPeek (hf : s.fault = false) :
    exec .irqPeek s = .next { s with response := irqResponse (select s) } :=
  runEffect_of_ok (effect := fun u => .ok () (respondIrq (select u) u)) hf rfl

theorem exec_irqAck (hf : s.fault = false) :
    exec .irqAck s = .next { ackSelected (select s) s with response := irqResponse (select s) } := by
  have h : exec .irqAck s = .next (withData 0 (respondIrq (select s) (ackSelected (select s) (beginCommand s)))) :=
    runEffect_of_ok (effect := fun u => .ok () (respondIrq (select u) (ackSelected (select u) u))) hf rfl
  rw [h]
  cases select s with
  | none => rfl
  | some src => cases src <;> rfl

theorem ackReturnedNone_irqResponse (r : Option Source) : ackReturnedNone (irqResponse r) = r.isNone := rfl

/-- `ACKALL` answers the pending sources in order and then none, and leaves none pending (R174). -/
theorem ackAll_ends {bound : Nat} (hf : s.fault = false) (hb : (pendingSources s).length < bound) :
    ∃ t rs, ackAll bound s = some (t, rs) ∧ rs.map (fun r => r.irq) = (pendingSources s).map some ++ [none] ∧
      t.fault = false ∧ pendingSources t = [] := by
  induction bound generalizing s with
  | zero => exact absurd hb (Nat.not_lt_zero _)
  | succ k ih =>
    have htail := pendingSources_ackSelected s
    rw [ackAll_succ (exec_irqAck hf)]
    simp only [ackReturnedNone_irqResponse]
    cases hp : pendingSources s with
    | nil =>
      have hselect : select s = none := by rw [select_eq_head?, hp]; rfl
      rw [hp, hselect] at htail
      rw [hselect]
      exact ⟨_, _, rfl, rfl, (ackSelected_fault _ _).trans hf, htail⟩
    | cons x xs =>
      have hselect : select s = some x := by rw [select_eq_head?, hp]; rfl
      rw [hp, hselect] at htail
      rw [hselect]
      obtain ⟨t, rs, hrun, hmap, htf, hnone⟩ := ih
        (s := { ackSelected (some x) s with response := irqResponse (some x) }) ((ackSelected_fault _ _).trans hf)
        (by rw [hp] at hb; exact (congrArg List.length htail).trans_lt (Nat.lt_of_succ_lt_succ hb))
      rw [hrun]
      refine ⟨t, _, rfl, ?_, htf, hnone⟩
      rw [List.map_cons, hmap]
      exact congrArg (fun l => some x :: (l.map some ++ [none])) htail

/-- As many responses name a source as sources are answered before none. -/
theorem countP_irq_isSome {rs : List Response} {l : List Source}
    (h : rs.map (fun r => r.irq) = l.map some ++ [none]) : rs.countP (fun r => r.irq.isSome) = l.length :=
  calc rs.countP (fun r => r.irq.isSome)
    _ = (rs.map (fun r => r.irq)).countP Option.isSome := by rw [List.countP_map]; rfl
    _ = l.length := by rw [h]; simp

/-- Settles O60: without a fault every line is reached within a frame, and `WAITLINE` ends there; with no transfer in
progress there is no fault. `ACKALL` takes one of at most three pending sources each time. -/
theorem waitLineAndAckAllEnd : Obligations.WaitLineAndAckAllEnd := by
  intro s hf
  refine ⟨fun n hr hn => ?_, ?_⟩
  · by_cases hnofault : ∀ j w, j ≤ 70680 → stepN j s = .next w → w.fault = false
    · obtain ⟨k, u, hk, hfirst⟩ := exists_firstOnLine hr hn hnofault
      obtain ⟨rs, hrun, hlength⟩ := waitLine_ends hfirst (hnofault k u hk hfirst.runs) hk
      exact .inl ⟨k, _, u, rs, hfirst.pos, hk, hfirst.runs, hfirst.line_eq, hfirst.line_ne, hrun, rfl, hlength⟩
    · push Not at hnofault
      obtain ⟨j, w, hj, hw, hfault⟩ := hnofault
      refine .inr ⟨?_, j, w, hj, hw, Bool.eq_true_of_not_eq_false hfault⟩
      by_contra hidle
      exact hfault (stepN_of_idle hf (BitVec.not_lt.1 hidle) hw).1
  · have hlength := length_pendingSources_le s
    obtain ⟨t, rs, hrun, hmap, htf, hnone⟩ := ackAll_ends (bound := ackAllBound) hf (Nat.lt_succ_of_le hlength)
    refine ⟨t, rs, hrun, hmap, (countP_irq_isSome hmap).trans_le hlength, ?_⟩
    rw [exec_irqPeek htf, select_eq_head?, hnone]
    rfl

end Sys2Proof.Machine
end

section
/-! PROOFS. Video timing: the display mode by position, video memory and its gate, the video tick, `STEP` with and
without a transfer, and what follows for every command and for any number of ticks. -/

namespace Sys2Proof.Machine

variable {i : Instr} {s t : State} {a : Addr}

/-! ### The display mode -/

/-- A line of the visible frame is not one of vertical blank (R127). -/
theorem not_lineVblank_le {line : BitVec 8} (h : line ≤ 143) : ¬ lineVblank ≤ line := by
  unfold lineVblank
  bv_omega

theorem not_le_colPreludeLast {col : BitVec 9} (h : 80 ≤ col) : ¬ col ≤ colPreludeLast := by
  unfold colPreludeLast
  bv_omega

theorem not_le_colActiveLast {col : BitVec 9} (h : 173 ≤ col) : ¬ col ≤ colActiveLast := by
  unfold colActiveLast
  bv_omega

/-- Settles O58: each range fails the tests before its own in the chain of R127 and passes its own. -/
theorem modeFollowsThePosition : Obligations.ModeFollowsThePosition := by
  intro s
  refine ⟨fun hline => if_pos hline, fun hline hcol => ?_, fun hline hlo hhi => ?_, fun hline hcol => ?_,
    fun t hline hcol => mode_congr hline hcol⟩
  · rw [mode, modeAt, if_neg (not_lineVblank_le hline)]
    exact if_pos hcol
  · rw [mode, modeAt, if_neg (not_lineVblank_le hline), if_neg (not_le_colPreludeLast hlo)]
    exact if_pos hhi
  · have hprelude : (80 : BitVec 9) ≤ s.col := by bv_omega
    rw [mode, modeAt, if_neg (not_lineVblank_le hline), if_neg (not_le_colPreludeLast hprelude),
      if_neg (not_le_colActiveLast hcol)]

/-- Video memory is gated exactly in the Active ranges (R127, R196). -/
theorem vramGated_iff (s : State) : vramGated s = true ↔ s.line ≤ 143 ∧ 80 ≤ s.col ∧ s.col ≤ 172 := by
  obtain ⟨hvblank, hprelude, hactive, hhblank, -⟩ := modeFollowsThePosition s
  rw [vramGated_eq, decide_eq_true_eq]
  refine ⟨fun h => ?_, fun ⟨hline, hlo, hhi⟩ => hactive hline hlo hhi⟩
  have hline : s.line ≤ 143 := by
    by_contra hc
    cases (hvblank (by bv_omega)).symm.trans h
  refine ⟨hline, ?_, ?_⟩ <;> by_contra hc
  · cases (hprelude hline (by bv_omega)).symm.trans h
  · cases (hhblank hline (by bv_omega)).symm.trans h

/-! ### Video memory -/

theorem readVram_of_plain (h : vramGated s = false) (a : Addr) :
    readVram a s = .ok (Memory.byte s.vram (storeIndex 0x8000 a)) s := by
  simp [readVram, h]

theorem readVram_of_gated (h : vramGated s = true) (a : Addr) :
    readVram a s = .ok (Config.freeByte s.draws) { s with draws := s.draws + 1 } := by
  simp [readVram, h, drawByte]

theorem writeVram_of_plain (h : vramGated s = false) (a : Addr) (v : Byte) :
    writeVram a v s = .ok () (setVram (storeIndex 0x8000 a) v s) := by
  simp [writeVram, h]

theorem writeVram_of_gated (h : vramGated s = true) (a : Addr) (v : Byte) :
    writeVram a v s =
      .ok () (setVram (storeIndex 0x8000 a) (Config.freeByte s.draws) { s with draws := s.draws + 1 }) := by
  simp [writeVram, h, drawByte, Run.bind]

theorem exec_fetchVram {b : Byte} (hf : s.fault = false) (ha : Target.vram.covers a = true)
    (hb : readVram a (beginCommand s) = .ok b t) :
    exec (.fetchVram a) s = .next { t with response := { t.response with rdata := b } } :=
  (inWindow_of_covers ha _).trans (runFetch_of_ok hf hb)

theorem exec_storeVram {v : Byte} (hf : s.fault = false) (ha : Target.vram.covers a = true)
    (hb : writeVram a v (beginCommand s) = .ok () t) :
    exec (.storeVram a v) s = .next { t with response := { t.response with rdata := 0 } } :=
  (inWindow_of_covers ha _).trans (runEffect_of_ok hf hb)

/-- Settles O21: outside the Active ranges the gate is open, so the two operations read and write the store. -/
theorem videoMemoryIsPlainOutsideActive : Obligations.VideoMemoryIsPlainOutsideActive := by
  intro s a v hf ha hpos
  have hgate : vramGated (beginCommand s) = false := by
    rw [Bool.eq_false_iff, Ne, vramGated_iff]
    rintro ⟨hline, hlo, hhi⟩
    rw [beginCommand_line] at hline
    rw [beginCommand_col] at hlo hhi
    bv_omega
  exact ⟨exec_fetchVram hf ha (readVram_of_plain hgate a), _,
    exec_storeVram hf ha (writeVram_of_plain hgate a v), Memory.byte_write_same _ _ _,
    fun _ ho => Memory.byte_write_other _ _ ho⟩

/-- Settles O22: in the Active ranges the gate is closed, so the two operations give and store the next draw. -/
theorem videoMemoryInActiveIsADraw : Obligations.VideoMemoryInActiveIsADraw := by
  intro s a v hf ha hline hlo hhi
  have hgate : vramGated (beginCommand s) = true := (vramGated_iff _).2 ⟨hline, hlo, hhi⟩
  exact ⟨exec_fetchVram hf ha (readVram_of_gated hgate a), _,
    exec_storeVram hf ha (writeVram_of_gated hgate a v), Memory.byte_write_same _ _ _,
    fun _ ho => Memory.byte_write_other _ _ ho⟩

/-! ### The video tick -/

/-- The tick that enters line 144 is the one that takes `line` from 143 to 144 (R125). -/
theorem entersVblank_iff_line (s : State) : EntersVblank s ↔ s.line = 143 ∧ (videoTick s).line = 144 := by
  rw [videoTick_line]
  unfold EntersVblank colLast lineLast lineVblank
  split_ifs <;> bv_omega

/-- Settles O37: the frame of the tick with each of its fields filled in, `Flip` and the vblank latch by whether the tick
enters line 144. -/
theorem videoTickAdvancesThePosition : Obligations.VideoTickAdvancesThePosition := by
  intro s endOfLine line' enters
  have hcol : (videoTick s).col = if endOfLine then 0 else s.col + 1 := by
    rw [videoTick_col]
    simp only [endOfLine, Bool.not_eq_true', decide_eq_false_iff_not, ite_not]
    rfl
  have hline : (videoTick s).line = line' := by
    rw [videoTick_line]
    simp only [line', endOfLine, Bool.not_eq_true', decide_eq_false_iff_not, ite_not]
    rfl
  have hlcd : (videoTick s).itLcd = (s.itLcd || (endOfLine && decide (line' = s.vregs.lyc))) := by
    rw [videoTick_itLcd, hline]
    rfl
  have henters : EntersVblank s ↔ enters = true := by
    simp only [enters, line', endOfLine, Bool.and_eq_true, Bool.not_eq_true', decide_eq_true_eq,
      decide_eq_false_iff_not, and_assoc]
    refine and_congr_right fun hend => and_congr_right fun hlast => ?_
    have hend' : ¬ s.col < 455 := hend
    have hlast' : s.line < 154 := hlast
    rw [if_pos hend', if_pos hlast']
    rfl
  rw [videoTick_frame, hcol, hline, hlcd]
  rcases videoTick_flip s with ⟨h, hresponse, hflips, hvblank⟩ | ⟨h, hresponse, hflips, hvblank⟩
  · rw [hresponse, hflips, hvblank, henters.1 h, Bool.or_true]
    rfl
  · rw [hresponse, hflips, hvblank, Bool.eq_false_iff.2 (mt henters.2 h), Bool.or_false]
    rfl

/-- A tick does not read the response port. -/
theorem videoTick_beginCommand (s : State) :
    ∃ r, videoTick (beginCommand s) = { videoTick s with response := r } := by
  rw [videoTickAdvancesThePosition, videoTickAdvancesThePosition]
  exact ⟨_, rfl⟩

/-! ### The DMA step -/

theorem dmaStep_of_idle (h : dmaLen ≤ s.dmaIdx) : dmaStep s = .ok () s := if_pos h

theorem oamIndex_of_lt {i : BitVec 16} (h : i < 160) : oamIndex i = i.toNat := by
  have hlow : i.toNat % 256 = i.toNat := Nat.mod_eq_of_lt (by bv_omega)
  rw [oamIndex, BitVec.toNat_and]
  exact (Nat.and_two_pow_sub_one_eq_mod i.toNat 8).trans hlow

theorem setOamByte_of_lt {i : Nat} (h : i < 160) (v : Byte) (s : State) :
    setOamByte i v s = { s with oam := s.oam.set i v } := dif_pos h

/-- A transfer in progress with OAM open moves one byte (R151). -/
theorem dmaStep_of_open (hidx : s.dmaIdx < 160) (hopen : oamOpen s = true) :
    ∃ b t, ∃ h : s.dmaIdx.toNat < 160, busRead s.dmaSrc s = .ok b t ∧
      dmaStep s = .ok () { t with
        oam := s.oam.set s.dmaIdx.toNat b, dmaSrc := s.dmaSrc + 1, dmaIdx := s.dmaIdx + 1 } ∧
      t = { s with response := t.response, draws := t.draws } := by
  rcases dmaStep_cases s with ⟨hidle, -⟩ | ⟨-, -, b, t, hread, e⟩ | ⟨-, hlocked, -⟩ | ⟨-, hlocked, -⟩
  · exact absurd hidle (BitVec.not_le.2 hidx)
  · obtain ⟨hstate, -⟩ := busRead_ok_frame hread
    refine ⟨b, t, hidx, hread, ?_, hstate⟩
    rw [e, oamIndex_of_lt hidx, setOamByte_of_lt hidx, hstate]
    rfl
  · cases hopen.symm.trans hlocked
  · cases hopen.symm.trans hlocked

/-- A transfer in progress with OAM locked ends in the violation of its read or of its write (R156). -/
theorem dmaStep_of_locked (hidx : s.dmaIdx < 160) (hlocked : oamOpen s = false) :
    ∃ t, dmaStep s = .stopped t ∧ t.response.fault = true ∧ t.response.violation =
      some (if Target.oam.covers s.dmaSrc then ⟨.get, s.dmaSrc⟩ else ⟨.set, s.dmaIdx⟩) := by
  rcases dmaStep_cases s with ⟨hidle, -⟩ | ⟨-, hopen, -⟩ | ⟨-, -, hoam, e⟩ | ⟨-, -, hoam, b, u, -, e⟩
  · exact absurd hidle (BitVec.not_le.2 hidx)
  · cases hopen.symm.trans hlocked
  · rw [targetOf_eq_iff] at hoam
    exact ⟨_, e, rfl, by rw [if_pos hoam]; rfl⟩
  · rw [Ne, targetOf_eq_iff] at hoam
    exact ⟨_, e, rfl, by rw [if_neg hoam]; rfl⟩

/-- Settles O35. -/
theorem dmaStepMovesOneByte : Obligations.DmaStepMovesOneByte := by
  intro s
  refine ⟨dmaStep_of_idle, fun hidx hmode => dmaStep_of_open hidx ((oamOpen_iff s).2 hmode), fun hidx hmode => ?_⟩
  obtain ⟨t, hd, hfault, hviolation⟩ := dmaStep_of_locked hidx ((oamOpen_eq_false_iff s).2 hmode)
  obtain ⟨hstate, -⟩ := dmaStep_stopped_frame hd
  exact ⟨t, hd, hstate, hfault, hviolation⟩

/-! ### `STEP` -/

/-- Settles O38: with no transfer a `STEP` is its video tick and the timer's step. -/
theorem tickAdvancesTheRaster : Obligations.TickAdvancesTheRaster := by
  intro s hf hidle endOfLine line' enters
  obtain ⟨hexec, -⟩ := (stepIsVideoThenDmaThenTimer s hf).1 _
    (dmaStep_of_idle (by rw [videoTick_dmaIdx]; exact hidle))
  have hresponse : (if enters then { Response.quiet with flip := true } else Response.quiet) =
      { Response.quiet with flip := enters } := by
    cases enters <;> rfl
  rw [hexec, videoTickAdvancesThePosition, ← hresponse]

/-- Settles O40: the video tick of the command differs from that of the statement in the response alone, which neither
the gate nor the byte of the bus read depends on. -/
theorem tickMovesOneTransferByte : Obligations.TickMovesOneTransferByte := by
  intro s hf hidx hmode
  obtain ⟨r, hvideo⟩ := videoTick_beginCommand s
  obtain ⟨b, t, hlt, hread, hd, ht⟩ := dmaStep_of_open (s := { videoTick s with response := r })
    (by rw [videoTick_dmaIdx]; exact hidx) ((oamOpen_iff _).2 hmode)
  obtain ⟨hexec, -, hrdata⟩ := (stepIsVideoThenDmaThenTimer s hf).1 _ ((congrArg dmaStep hvideo).trans hd)
  obtain ⟨u, hu⟩ := readTarget_ok_response hread
  rw [videoTick_dmaSrc] at hu
  refine ⟨b, _, u, hidx, hexec, hu, ?_, hrdata⟩
  rw [ht]
  simp only [videoTick_oam, videoTick_dmaSrc, videoTick_dmaIdx]

/-! ### The flips -/

/-- A `STEP` that is not refused shows the `Flip` of its video tick, also when its DMA step faults (R156, R200). -/
theorem exec_step_flip_eq (hf : s.fault = false) (h : exec .step s = .next t) :
    t.response.flip = (videoTick (beginCommand s)).response.flip := by
  rcases runEffect_cases tick s with ⟨hfault, -⟩ | ⟨-, u, htick, e⟩ | ⟨-, u, htick, e⟩
  · cases hf.symm.trans hfault
  · cases e.symm.trans h
    obtain ⟨w, hd, rfl⟩ := tick_ok htick
    obtain ⟨-, hresponse, -⟩ := dmaStep_ok_frame hd
    rw [timerTick_response, hresponse]
  · cases e.symm.trans h
    obtain ⟨-, -, hresponse⟩ := dmaStep_stopped_frame (tick_stopped htick)
    rw [hresponse]

theorem videoTick_beginCommand_flip (s : State) :
    (videoTick (beginCommand s)).response.flip = true ↔ EntersVblank (beginCommand s) := by
  rcases videoTick_flip (beginCommand s) with ⟨h, e, -⟩ | ⟨h, e, -⟩ <;> rw [e] <;> simp [h, Response.quiet]

/-- A refused `STEP` shows no `Flip` and leaves the line; any other flips when its tick enters line 144 (R125). -/
theorem exec_step_flip_iff (h : exec .step s = .next t) :
    t.response.flip = true ↔ s.line = 143 ∧ t.line = 144 := by
  cases hf : s.fault
  · obtain ⟨hline, -⟩ := exec_step_position hf h
    rw [exec_step_flip_eq hf h, videoTick_beginCommand_flip, entersVblank_iff_line, hline]
    rfl
  · cases (exec_of_fault rfl hf).symm.trans h
    refine ⟨fun hflip => Bool.noConfusion hflip, fun ⟨hbefore, hafter⟩ => ?_⟩
    cases hbefore.symm.trans hafter

/-- The count of flips stands outside the frame of every command but `STEP` (R125). -/
theorem flips_of_ne_step (h : exec i s = .next t) (hi : i ≠ .step) : t.flips = s.flips := by
  rcases (exec_does h).frame with ⟨rfl, -⟩ | ⟨-, e⟩ | ⟨-, e⟩ | ⟨x, a, v, -, hx, hb⟩ | e
  · exact absurd rfl hi
  · rw [e]; exact ackSelected_flips s _
  · rw [e]; rfl
  · rw [(storeOf_frame hx hb).1]; rfl
  · rw [e]

theorem flip_of_ne_step (h : exec i s = .next t) (hi : i ≠ .step) : t.response.flip = false := by
  obtain ⟨-, -, hflip, -⟩ := responseFieldsBelongToTheirCommands i s t h
  exact Bool.eq_false_iff.2 (mt hflip hi)

/-- Settles O42: a `STEP` flips as its video tick does; the frame of every other command leaves the count, and the
response port shows no `Flip` for it. -/
theorem flipExactlyOnEnteringLine144 : Obligations.FlipExactlyOnEnteringLine144 := by
  intro i s t h
  by_cases hi : i = .step
  · subst hi
    refine ⟨by simp [exec_step_flip_iff h], ?_⟩
    rw [exec_step_flips h]
    cases t.response.flip <;> rfl
  · rw [flip_of_ne_step h hi, flips_of_ne_step h hi]
    simp [hi]

/-! ### The fault flag and OAM -/

/-- A command leaves the fault flag, or it is one of four and OAM is locked at its access (R130, R291). -/
theorem Does.fault_cases (h : Does s i t) :
    t.fault = s.fault ∨ (oamOpen t = false ∧
      (i = .step ∨ (∃ v, i = .storeDma v) ∨ (∃ a, i = .fetchOam a) ∨ ∃ a v, i = .storeOam a v)) := by
  cases h with
  | refuse _ => exact .inl rfl
  | step _ h => exact .inl (by rw [withData, timerTick_fault, (dmaStep_ok_frame h).1]; simp)
  | stepFault _ h =>
    obtain ⟨hstate, hlocked, -⟩ := dmaStep_stopped_frame h
    exact .inr ⟨by rw [hstate]; exact hlocked, .inl rfl⟩
  | irqPeek _ => exact .inl rfl
  | irqAck _ => exact .inl (ackSelected_fault s _)
  | reset _ => exact .inl rfl
  | fetch x a _ h => exact .inl (by rw [withData, (readTarget_ok_frame h).1]; rfl)
  | fetchOamFault a _ hlocked => exact .inr ⟨hlocked, .inr (.inr (.inl ⟨a, rfl⟩))⟩
  | storeOam a v _ _ => exact .inl (setOamByte_fault _ _ _)
  | storeOamFault a v _ hlocked => exact .inr ⟨hlocked, .inr (.inr (.inr ⟨a, v, rfl⟩))⟩
  | storeDma v _ h => exact .inl (by rw [withData, (dmaTrigger_ok_frame h).1]; rfl)
  | storeDmaFault v _ h =>
    obtain ⟨hstate, hlocked, -⟩ := dmaTrigger_stopped_frame h
    exact .inr ⟨by rw [hstate]; exact hlocked, .inr (.inl ⟨v, rfl⟩)⟩
  | storeVram a v b n _ => exact .inl rfl
  | store x a v _ hx h => exact .inl (by rw [(storeOf_frame hx h).1]; rfl)

/-- Settles O50. -/
theorem onlyLockedOamAccessesFault : Obligations.OnlyLockedOamAccessesFault := by
  intro i s t h hbefore hafter
  rcases (exec_does h).fault_cases with hkept | ⟨hlocked, hi⟩
  · cases hbefore.symm.trans (hkept.symm.trans hafter)
  · exact ⟨(oamOpen_eq_false_iff t).1 hlocked, hi⟩

/-- A command leaves OAM, or it is `RESET`, or it is one of three and OAM is open at its access (R128, R132). -/
theorem Does.oam_cases (h : Does s i t) :
    t.oam = s.oam ∨ i = .reset ∨
      (oamOpen t = true ∧ (i = .step ∨ (∃ v, i = .storeDma v) ∨ ∃ a v, i = .storeOam a v)) := by
  cases h with
  | refuse _ => exact .inl rfl
  | @step u _ h =>
    obtain ⟨hstate, -, hopen⟩ := dmaStep_ok_frame h
    by_cases hkept : u.oam = (videoTick (beginCommand s)).oam
    · exact .inl (hkept.trans (videoTick_oam _))
    · exact .inr (.inr ⟨by rw [hstate]; exact hopen hkept, .inl rfl⟩)
  | stepFault _ h => exact .inl (by rw [(dmaStep_stopped_frame h).1]; simp)
  | irqPeek _ => exact .inl rfl
  | irqAck _ => exact .inl (ackSelected_oam s _)
  | reset _ => exact .inr (.inl rfl)
  | fetch x a _ h => exact .inl (by rw [withData, (readTarget_ok_frame h).1]; rfl)
  | fetchOamFault a _ _ => exact .inl rfl
  | storeOam a v _ hopen =>
    exact .inr (.inr ⟨by rw [setOamByte_frame]; exact hopen, .inr (.inr ⟨a, v, rfl⟩)⟩)
  | storeOamFault a v _ _ => exact .inl rfl
  | @storeDma v u _ h =>
    obtain ⟨hstate, -, hopen⟩ := dmaTrigger_ok_frame h
    by_cases hkept : u.oam = (beginCommand s).oam
    · exact .inl hkept
    · exact .inr (.inr ⟨by rw [hstate]; exact hopen hkept, .inr (.inl ⟨v, rfl⟩)⟩)
  | storeDmaFault v _ h => exact .inl (by rw [(dmaTrigger_stopped_frame h).1]; rfl)
  | storeVram a v b n _ => exact .inl rfl
  | store x a v _ hx h => exact .inl (by rw [(storeOf_frame hx h).1]; rfl)

/-- Settles O51. -/
theorem lockedOamNeverChanges : Obligations.LockedOamNeverChanges := by
  intro i s t h hne
  rcases (exec_does h).oam_cases with hkept | hreset | ⟨hopen, hi⟩
  · exact absurd hkept hne
  · exact .inl hreset
  · exact .inr ⟨(oamOpen_iff t).1 hopen, hi⟩

/-! ### Any number of ticks -/

/-- A `STEP` that is not refused flips when it reaches position 65664, the start of line 144 (R122, R125). -/
theorem exec_step_flips_rasterPos (hf : s.fault = false) (hr : RasterInRange s) (h : exec .step s = .next t) :
    t.flips = s.flips + if rasterPos t = 65664 then 1 else 0 := by
  obtain ⟨hline, hcol⟩ := exec_step_position hf h
  have hflip : t.response.flip = true ↔ rasterPos t = 65664 := by
    rw [exec_step_flip_eq hf h, videoTick_beginCommand_flip, rasterPos_congr hline hcol]
    exact entersVblank_iff_rasterPos (s := beginCommand s) hr
  rw [exec_step_flips h, if_congr hflip.symm rfl rfl]
  cases t.response.flip <;> rfl

/-- With no transfer in progress, `n` ticks flip once for each time they pass position 65664, the frame's 70680 ticks
after the one before (R122). -/
theorem stepN_flips {n : Nat} (hf : s.fault = false) (hidle : dmaLen ≤ s.dmaIdx) (hr : RasterInRange s)
    (h : stepN n s = .next t) :
    t.flips + (rasterPos s + 5016) / 70680 = s.flips + (rasterPos s + n + 5016) / 70680 := by
  induction n generalizing t with
  | zero => cases h; rfl
  | succ k ih =>
    obtain ⟨u, hu⟩ := stepN_answers k s
    obtain ⟨huf, -⟩ := stepN_of_idle hf hidle hu
    obtain ⟨hru, hpos⟩ := stepN_rasterPos hr hu huf
    have hstep : exec .step u = .next t := (stepN_succ hu).symm.trans h
    have hcount := ih hu
    rw [exec_step_flips_rasterPos huf hru hstep, (exec_step_rasterPos huf hru hstep).2, hpos]
    split_ifs <;> omega

/-- Settles O53: the position after `n` ticks is `n` modulo the frame, and the flips are counted by `stepN_flips`. -/
theorem rasterFollowsTheFrameGeometry : Obligations.RasterFollowsTheFrameGeometry := by
  intro s n hf hidle hline hcol
  have hr : RasterInRange s := rasterInRange_iff.2 (by simp [hline, hcol])
  have hstart : rasterPos s = 0 := by simp [rasterPos, hline, hcol]
  obtain ⟨t, ht⟩ := stepN_answers n s
  obtain ⟨htf, -⟩ := stepN_of_idle hf hidle ht
  obtain ⟨hrt, hpos⟩ := stepN_rasterPos hr ht htf
  obtain ⟨-, htcol⟩ := rasterInRange_iff.1 hrt
  have hflips := stepN_flips hf hidle hr ht
  rw [hstart] at hpos hflips
  unfold rasterPos at hpos
  refine ⟨t, ht, htf, ?_, ?_, ?_⟩ <;> omega

end Sys2Proof.Machine
end

section
/-! PROOFS. The OAM DMA copy engine: its source read, the trigger, a `STEP` whose DMA step faults, and the run of a
whole transfer from a trigger position. -/

namespace Sys2Proof.Machine

variable {page : Byte} {s t u : State}

/-! ### The source read -/

/-- Settles O34: a `FETCH` word runs the bus read of its address, which stops only at the OAM violation. -/
theorem fetchIsTheDmaSourceRead : Obligations.FetchIsTheDmaSourceRead := by
  intro s a v hf
  rw [exec_fetchWord]
  refine ⟨fun b t hread => runCommand_of_ok hf hread, fun t hread => ?_⟩
  obtain ⟨-, -, rfl⟩ := busRead_stopped hread
  exact ⟨runCommand_of_stopped hf hread, rfl, rfl⟩

/-- Only the DMA register shows the transfer: the byte of any other read does not depend on it (R190, R258). -/
theorem readTarget_ok_transfer {x : Target} {a src idx : BitVec 16} {b : Byte} (hx : x ≠ .dma)
    (h : readTarget x a { s with dmaIdx := idx, dmaSrc := src } = .ok b t) : ∃ u, readTarget x a s = .ok b u := by
  cases x
  case dma => exact absurd rfl hx
  case vram =>
    cases hg : vramGated s
    · cases (readVram_of_plain (s := { s with dmaIdx := idx, dmaSrc := src }) hg a).symm.trans h
      exact ⟨_, readVram_of_plain hg a⟩
    · cases (readVram_of_gated (s := { s with dmaIdx := idx, dmaSrc := src }) hg a).symm.trans h
      exact ⟨_, readVram_of_gated hg a⟩
  case oam =>
    cases ho : oamOpen s
    · cases (oamGet_of_locked (s := { s with dmaIdx := idx, dmaSrc := src }) ho a).symm.trans h
    · cases (oamGet_of_open (s := { s with dmaIdx := idx, dmaSrc := src }) ho a).symm.trans h
      exact ⟨_, oamGet_of_open ho a⟩
  all_goals
    cases h
    exact ⟨_, rfl⟩

/-- The first byte of a page is not the DMA register (R150, R230). -/
theorem targetOf_dmaSourceOf_ne_dma (page : Byte) : targetOf (dmaSourceOf page) ≠ .dma := by
  rw [Ne, targetOf_eq_iff]
  have hpage := toNat_dmaSourceOf page
  simp only [Target.covers, inRange_iff, BitVec.reduceToNat]
  omega

/-- The byte `i` of an internal RAM page lies in internal RAM, at the page's offset plus `i` (R80, R201). -/
theorem busRead_of_ramPage {i : BitVec 16} (hlo : 0xc0 ≤ page) (hhi : page ≤ 0xdf) (hi : i < 160) (s : State) :
    busRead (dmaSourceOf page + i) s = .ok (Memory.byte s.wram ((page.toNat - 0xc0) * 256 + i.toNat)) s := by
  have hlo' : 192 ≤ page.toNat := hlo
  have hhi' : page.toNat ≤ 223 := hhi
  have hi' : i.toNat < 160 := hi
  have haddr : (dmaSourceOf page + i).toNat = page.toNat * 256 + i.toNat := by
    rw [BitVec.toNat_add, toNat_dmaSourceOf]
    omega
  have htarget : targetOf (dmaSourceOf page + i) = .wram := by
    rw [targetOf_eq_iff]
    simp only [Target.covers, inRange_iff, BitVec.reduceToNat]
    omega
  have hindex : storeIndex 0xc000 (dmaSourceOf page + i) = (page.toNat - 0xc0) * 256 + i.toNat := by
    have hbase : (0xc000 : Addr).toNat = 0xc000 := rfl
    rw [storeIndex, windowOffset, BitVec.toNat_sub_of_le (by rw [BitVec.le_def]; omega)]
    omega
  rw [busRead, htarget, ← hindex]
  rfl

/-! ### The trigger -/

/-- A source address inside a page is the page's first address plus the low byte (R79). -/
theorem dmaSourceOf_add (page low : Byte) : dmaSourceOf page + low.setWidth 16 = page ++ low := by
  rw [← BitVec.toNat_inj, BitVec.toNat_add, toNat_dmaSourceOf, BitVec.toNat_append, BitVec.toNat_setWidth,
    ← Nat.shiftLeft_add_eq_or_of_lt low.isLt, Nat.shiftLeft_eq]
  omega

/-- With OAM open a trigger writes `oam[0]` and leaves both counters at 1 (R150). -/
theorem exec_storeDma_of_open (hf : s.fault = false) (hopen : oamOpen s = true) (page : Byte) :
    ∃ b t r n, exec (.storeDma page) s = .next t ∧
      t = { s with oam := s.oam.set 0 b, dmaSrc := page ++ 0x01#8, dmaIdx := 1, response := r, draws := n } ∧
      r.fault = false ∧ r.rdata = 0 ∧
      ∃ u, exec (decode (CommandWord.mk 1 (page ++ 0x00#8) 0)) s = .next u ∧ u.response.rdata = b := by
  obtain ⟨b, t, hlt, hread, hd, ht⟩ := dmaStep_of_open
    (s := { beginCommand s with dmaIdx := 0, dmaSrc := dmaSourceOf page })
    (show (0 : BitVec 16) < 160 by decide) hopen
  obtain ⟨-, hresponse⟩ := busRead_ok_frame hread
  obtain ⟨u, hfetch⟩ := readTarget_ok_transfer (targetOf_dmaSourceOf_ne_dma page) hread
  have hexec : exec (.storeDma page) s = _ := runEffect_of_ok hf hd
  refine ⟨b, _, { t.response with rdata := 0 }, t.draws, hexec, ?_, ?_, rfl,
    _, (fetchIsTheDmaSourceRead s _ 0 hf).1 b u hfetch, rfl⟩
  · rw [ht, ← dmaSourceOf_add]
    rfl
  · rw [hresponse]
    rfl

/-- With OAM locked a trigger leaves both counters at the start of the page and faults (R150, R156; D29, log 17). -/
theorem exec_storeDma_of_locked (hf : s.fault = false) (hlocked : oamOpen s = false) (page : Byte) :
    ∃ t r n, exec (.storeDma page) s = .next t ∧
      t = { s with fault := true, dmaSrc := page ++ 0x00#8, dmaIdx := 0, response := r, draws := n } ∧
      r.fault = true ∧ r.rdata = 0 := by
  obtain ⟨t, hd, hfault, -⟩ := dmaStep_of_locked
    (s := { beginCommand s with dmaIdx := 0, dmaSrc := dmaSourceOf page })
    (show (0 : BitVec 16) < 160 by decide) hlocked
  obtain ⟨hstate, -, hresponse⟩ := dmaTrigger_stopped_frame hd
  refine ⟨t, t.response, t.draws, runEffect_of_stopped hf hd, hstate, hfault, ?_⟩
  rw [hresponse]
  rfl

/-- Settles O36: the two modes of each half are those in which OAM is open, or locked. -/
theorem dmaTriggerStartsAndMovesTheFirstByte : Obligations.DmaTriggerStartsAndMovesTheFirstByte := fun s v hf =>
  ⟨fun hmode => exec_storeDma_of_open hf ((oamOpen_iff s).2 hmode) v,
    fun hmode => exec_storeDma_of_locked hf ((oamOpen_eq_false_iff s).2 hmode) v⟩

/-- A trigger goes through exactly when it finds OAM open (R130, R150). -/
theorem exec_storeDma_fault_iff (hf : s.fault = false) (h : exec (.storeDma page) s = .next t) :
    t.fault = false ↔ oamOpen s = true := by
  cases hopen : oamOpen s
  · obtain ⟨v, r, n, hexec, rfl, -⟩ := exec_storeDma_of_locked hf hopen page
    cases hexec.symm.trans h
    simp
  · obtain ⟨b, v, r, n, hexec, rfl, -⟩ := exec_storeDma_of_open hf hopen page
    cases hexec.symm.trans h
    simp [hf]

/-! ### A `STEP` during a transfer -/

/-- Settles O41: the video tick of the command differs from that of the statement in the response alone, on which the
gate does not depend, and a DMA step that faults keeps OAM, both counters and, in a `STEP`, the timer. -/
theorem faultingDmaStepLeavesTheTransfer : Obligations.FaultingDmaStepLeavesTheTransfer := by
  intro s hf hidx hmode
  obtain ⟨r, hvideo⟩ := videoTick_beginCommand s
  obtain ⟨t, hd, hfault, -⟩ := dmaStep_of_locked (s := { videoTick s with response := r })
    (by rw [videoTick_dmaIdx]; exact hidx) ((oamOpen_eq_false_iff _).2 hmode)
  obtain ⟨hexec, htimer, -⟩ := (stepIsVideoThenDmaThenTimer s hf).2 t ((congrArg dmaStep hvideo).trans hd)
  obtain ⟨hstate, -⟩ := dmaStep_stopped_frame hd
  refine ⟨t, hexec, hfault, ?_, ?_, ?_, htimer, hstate⟩
  · rw [hstate, videoTick_oam]
  · rw [hstate, videoTick_dmaSrc]
  · rw [hstate, videoTick_dmaIdx]

/-- What a `STEP` that is not refused does to the transfer: nothing once 160 bytes have been moved, one byte moved with
OAM open after the tick, or the fault with OAM locked (R151, R156, R200). -/
inductive TransferTick (s t : State) : Prop where
  | idle (hidle : 160 ≤ s.dmaIdx.toNat) (hfault : t.fault = false) (hidx : t.dmaIdx = s.dmaIdx) (hoam : t.oam = s.oam)
      (hwram : t.wram = s.wram)
  | moved (hlt : s.dmaIdx.toNat < 160) (hfault : t.fault = false) (hopen : oamOpen t = true)
      (hidx : t.dmaIdx = s.dmaIdx + 1) {b : Byte} {u : State} (hread : busRead s.dmaSrc (videoTick s) = .ok b u)
      (hoam : t.oam = s.oam.set s.dmaIdx.toNat b) (hwram : t.wram = s.wram)
  | locked (hlt : s.dmaIdx.toNat < 160) (hfault : t.fault = true) (hlocked : oamOpen t = false)

theorem transferTick_of_step (hf : s.fault = false) (h : exec .step s = .next t) : TransferTick s t := by
  by_cases hlt : s.dmaIdx < 160
  · cases hopen : oamOpen (videoTick s)
    · obtain ⟨v, hexec, -, -, -, -, -, hv⟩ :=
        faultingDmaStepLeavesTheTransfer s hf hlt ((oamOpen_eq_false_iff _).1 hopen)
      cases hexec.symm.trans h
      exact .locked hlt (by rw [hv]) (by rw [hv]; exact hopen)
    · obtain ⟨b, v, u, hidx, hexec, hread, hv, -⟩ :=
        tickMovesOneTransferByte s hf hlt ((oamOpen_iff _).1 hopen)
      cases hexec.symm.trans h
      exact .moved hidx (by rw [hv]; exact (videoTick_fault s).trans hf) (by rw [hv]; exact hopen) (by rw [hv]) hread
        (by rw [hv]) (by rw [hv]; exact videoTick_wram s)
  · have hidle : 160 ≤ s.dmaIdx := BitVec.not_lt.1 hlt
    cases (tickAdvancesTheRaster s hf hidle).symm.trans h
    exact .idle hidle hf rfl rfl rfl

/-! ### A trigger and the `STEP`s after it -/

theorem dmaThenSteps_zero (page : Byte) (s : State) : dmaThenSteps page 0 s = exec (.storeDma page) s := by
  obtain ⟨t, ht⟩ := exec_answers (i := .storeDma page) rfl s
  rw [dmaThenSteps, ht]
  rfl

theorem dmaThenSteps_answers (page : Byte) (k : Nat) (s : State) : ∃ t, dmaThenSteps page k s = .next t := by
  obtain ⟨t, ht⟩ := exec_answers (i := .storeDma page) rfl s
  rw [dmaThenSteps, ht]
  exact stepN_answers k t

theorem dmaThenSteps_succ {k : Nat} (h : dmaThenSteps page k s = .next t) :
    dmaThenSteps page (k + 1) s = exec .step t := by
  obtain ⟨u, hu⟩ := exec_answers (i := .storeDma page) rfl s
  rw [dmaThenSteps, hu] at h ⊢
  exact stepN_succ h

/-- What the trigger establishes and every `STEP` keeps holds after each of them, as long as none faults. -/
theorem dmaThenSteps_induction {motive : Nat → State → Prop}
    (trigger : ∀ t, exec (.storeDma page) s = .next t → t.fault = false → motive 0 t)
    (tick : ∀ k t u, dmaThenSteps page k s = .next t → motive k t → t.fault = false →
      exec .step t = .next u → u.fault = false → motive (k + 1) u)
    {k : Nat} (h : dmaThenSteps page k s = .next t) (ht : t.fault = false) : motive k t := by
  induction k generalizing t with
  | zero => exact trigger t ((dmaThenSteps_zero page s).symm.trans h) ht
  | succ k ih =>
    obtain ⟨u, hu⟩ := dmaThenSteps_answers page k s
    have hstep : exec .step u = .next t := (dmaThenSteps_succ hu).symm.trans h
    have huf := fault_before_step hstep ht
    exact tick k u t hu (ih hu huf) huf hstep ht

/-- After the trigger and `k` ticks the index counts the bytes moved, up to 160 (R151, R157). -/
theorem dmaThenSteps_dmaIdx {k : Nat} (hf : s.fault = false) (h : dmaThenSteps page k s = .next t)
    (ht : t.fault = false) : t.dmaIdx.toNat = min (k + 1) 160 := by
  refine dmaThenSteps_induction (motive := fun k t => t.dmaIdx.toNat = min (k + 1) 160) (fun t h ht => ?_)
    (fun k t u _ hcount htf h huf => ?_) h ht
  · obtain ⟨b, v, r, n, hexec, rfl, -⟩ := exec_storeDma_of_open hf ((exec_storeDma_fault_iff hf h).1 ht) page
    cases hexec.symm.trans h
    rfl
  · cases transferTick_of_step htf h with
    | idle hidle _ hidx =>
      rw [hidx]
      omega
    | moved hlt _ _ hidx =>
      rw [hidx]
      bv_omega
    | locked _ hfault => cases huf.symm.trans hfault

/-- The source address stays at the page's first byte plus the index (R78, R155). -/
theorem transferFrom_of_dmaThenSteps {k : Nat} (hf : s.fault = false) (h : dmaThenSteps page k s = .next t)
    (ht : t.fault = false) : TransferFrom page t :=
  dmaThenSteps_induction (motive := fun _ t => TransferFrom page t) (fun _ h _ => transferFrom_of_storeDma hf h)
    (fun _ _ _ _ hpage _ h _ => hpage.after_step h) h ht

theorem rasterPos_mod (hr : RasterInRange s) : rasterPos s % 70680 = rasterPos s := by
  obtain ⟨hline, hcol⟩ := rasterInRange_iff.1 hr
  unfold rasterPos
  omega

/-- The trigger takes no tick and each `STEP` takes one (R122, R340). -/
theorem dmaThenSteps_rasterPos {k : Nat} (hr : RasterInRange s) (h : dmaThenSteps page k s = .next t)
    (ht : t.fault = false) : RasterInRange t ∧ rasterPos t = (rasterPos s + k) % 70680 := by
  refine dmaThenSteps_induction (motive := fun k t => RasterInRange t ∧ rasterPos t = (rasterPos s + k) % 70680)
    (fun t h _ => ?_) (fun k t u _ ⟨hrt, hpos⟩ htf h _ => ?_) h ht
  · obtain ⟨hline, hcol⟩ := onlyTicksAndResetMoveThePosition _ s t h (by simp) (by simp)
    refine ⟨(rasterInRange_congr hline hcol).2 hr, ?_⟩
    rw [rasterPos_congr hline hcol, Nat.add_zero, rasterPos_mod hr]
  · obtain ⟨hru, hpos'⟩ := exec_step_rasterPos htf hrt h
    exact ⟨hru, by omega⟩

/-! ### The safe positions -/

/-- OAM is open at the raster position `p`, counted on around the frame (R122, R130). -/
def OpenAt (p : Nat) : Prop := 144 * 456 ≤ p % 70680 ∨ 173 ≤ p % 70680 % 456

theorem oamOpen_iff_openAt {p : Nat} (hr : RasterInRange s) (hp : rasterPos s = p % 70680) :
    oamOpen s = true ↔ OpenAt p := by
  rw [oamOpen_iff_rasterPos hr, hp]
  rfl

theorem rasterInRange_of_dmaSafeStart (h : DmaSafeStart s.line s.col) : RasterInRange s := by
  unfold DmaSafeStart at h
  unfold RasterInRange lineLast colLast
  bv_omega

/-- The table of R331 lists the positions from which OAM stays open for 159 ticks. -/
theorem openAt_iff_dmaSafeStart (hr : RasterInRange s) :
    (∀ j ≤ 159, OpenAt (rasterPos s + j)) ↔ DmaSafeStart s.line s.col := by
  obtain ⟨hline, hcol⟩ := rasterInRange_iff.1 hr
  have hsafe : DmaSafeStart s.line s.col ↔
      (s.line.toNat ≤ 142 ∧ 173 ≤ s.col.toNat ∧ s.col.toNat ≤ 296) ∨
        (s.line.toNat = 143 ∧ 173 ≤ s.col.toNat ∧ s.col.toNat ≤ 455) ∨
        (144 ≤ s.line.toNat ∧ s.line.toNat ≤ 153 ∧ s.col.toNat ≤ 455) ∨
        (s.line.toNat = 154 ∧ s.col.toNat ≤ 296) := by
    unfold DmaSafeStart
    simp only [BitVec.le_def, ← BitVec.toNat_inj, BitVec.reduceToNat]
  rw [hsafe]
  unfold OpenAt rasterPos
  constructor
  · intro hopen
    have hfirst := hopen 0 (by omega)
    by_cases hnext : 297 ≤ s.col.toNat
    · have hwrap := hopen (456 - s.col.toNat) (by omega)
      omega
    · omega
  · intro htable j hj
    omega

/-- A `STEP` during a transfer ends without a fault exactly when OAM is open after it (R130, R156). -/
theorem exec_step_fault_iff (hf : s.fault = false) (hidx : s.dmaIdx.toNat < 160) (h : exec .step s = .next t) :
    t.fault = false ↔ oamOpen t = true := by
  cases transferTick_of_step hf h with
  | idle hidle => exact absurd hidx (Nat.not_lt.2 hidle)
  | moved _ hfault hopen => simp [hfault, hopen]
  | locked _ hfault hlocked => simp [hfault, hlocked]

/-- A trigger and `k` ticks end without a fault exactly when OAM is open at each of their positions (R130, R156). -/
theorem dmaThenSteps_fault_iff {k : Nat} (hf : s.fault = false) (hr : RasterInRange s) (hk : k < 160)
    (h : dmaThenSteps page k s = .next t) : t.fault = false ↔ ∀ j ≤ k, OpenAt (rasterPos s + j) := by
  induction k generalizing t with
  | zero =>
    rw [exec_storeDma_fault_iff hf ((dmaThenSteps_zero page s).symm.trans h),
      oamOpen_iff_openAt hr (rasterPos_mod hr).symm]
    simp
  | succ k ih =>
    obtain ⟨u, hu⟩ := dmaThenSteps_answers page k s
    have hstep : exec .step u = .next t := (dmaThenSteps_succ hu).symm.trans h
    have hbefore := ih (by omega) hu
    have hlast : u.fault = false → (t.fault = false ↔ OpenAt (rasterPos s + (k + 1))) := fun huf => by
      obtain ⟨hru, hpos⟩ := dmaThenSteps_rasterPos hr hu huf
      obtain ⟨hrt, hpos'⟩ := exec_step_rasterPos huf hru hstep
      have hidx : u.dmaIdx.toNat < 160 := by rw [dmaThenSteps_dmaIdx hf hu huf]; omega
      rw [exec_step_fault_iff huf hidx hstep, oamOpen_iff_openAt hrt (p := rasterPos s + (k + 1)) (by omega)]
    constructor
    · intro ht j hj
      have huf := fault_before_step hstep ht
      rcases Nat.le_succ_iff.1 hj with hj | rfl
      · exact hbefore.1 huf j hj
      · exact (hlast huf).1 ht
    · intro hopen
      exact (hlast (hbefore.2 fun j hj => hopen j (by omega))).2 (hopen _ le_rfl)

/-- Settles O56: the run ends without a fault exactly when OAM is open at all its 160 positions, and then the index has
counted 160 bytes. -/
theorem dmaCompletesExactlyFromSafePositions : Obligations.DmaCompletesExactlyFromSafePositions := by
  intro s page hf hr
  obtain ⟨t, ht⟩ := dmaThenSteps_answers page 159 s
  refine ⟨t, ht, ?_, fun htf => ?_⟩
  · rw [dmaThenSteps_fault_iff hf hr (by omega) ht, openAt_iff_dmaSafeStart hr]
  · have hidx : t.dmaIdx = 160 := BitVec.eq_of_toNat_eq (dmaThenSteps_dmaIdx hf ht htf)
    obtain ⟨hsrc, -⟩ := transferFrom_of_dmaThenSteps hf ht htf
    refine ⟨hidx, ?_⟩
    rw [hsrc, hidx, ← dmaSourceOf_add]
    rfl

/-! ### The bytes a transfer has moved -/

/-- From `s` to `t` bytes 0 to `k` of an internal RAM page have come into OAM, and nothing else has changed there or in
internal RAM (R157). -/
def PageCopied (page : Byte) (k : Nat) (s t : State) : Prop :=
  t.wram = s.wram ∧ ∀ i : Fin 160, t.oam[i] =
    if i.val ≤ k then Memory.byte s.wram ((page.toNat - 0xc0) * 256 + i.val) else s.oam[i]

theorem pageCopied_of_storeDma (hf : s.fault = false) (hlo : 0xc0 ≤ page) (hhi : page ≤ 0xdf)
    (h : exec (.storeDma page) s = .next t) (ht : t.fault = false) : PageCopied page 0 s t := by
  obtain ⟨b, v, r, n, hexec, hv, -, -, u, hfetch, hb⟩ :=
    exec_storeDma_of_open hf ((exec_storeDma_fault_iff hf h).1 ht) page
  cases hexec.symm.trans h
  have hread := busRead_of_ramPage hlo hhi (i := 0#16) (by decide) (beginCommand s)
  rw [BitVec.add_zero] at hread
  cases ((fetchIsTheDmaSourceRead s _ 0 hf).1 _ _ hread).symm.trans hfetch
  refine ⟨by rw [hv], fun i => ?_⟩
  simp only [hv, ← hb, Fin.getElem_fin, Vector.getElem_set, Nat.le_zero, eq_comm (a := 0)]
  split_ifs with hi
  · rw [hi]; rfl
  · rfl

/-- A `STEP` that moves a byte adds the byte `k + 1` of the page; one after the last byte adds nothing (R151). -/
theorem PageCopied.after_step {k : Nat} (h : PageCopied page k s t) (hf : s.fault = false) (hlo : 0xc0 ≤ page)
    (hhi : page ≤ 0xdf) (hrun : dmaThenSteps page k s = .next t) (htf : t.fault = false)
    (hstep : exec .step t = .next u) (huf : u.fault = false) : PageCopied page (k + 1) s u := by
  obtain ⟨hwram, hoam⟩ := h
  obtain ⟨hsrc, -⟩ := transferFrom_of_dmaThenSteps hf hrun htf
  have hcount := dmaThenSteps_dmaIdx hf hrun htf
  cases transferTick_of_step htf hstep with
  | idle hidle _ _ hoam' hwram' =>
    refine ⟨hwram'.trans hwram, fun i => ?_⟩
    rw [hoam', hoam i, if_pos (by omega), if_pos (by omega)]
  | moved hlt _ _ _ hread hoam' hwram' =>
    have hidx : t.dmaIdx.toNat = k + 1 := by omega
    have hbyte := busRead_of_ramPage hlo hhi (i := t.dmaIdx) hlt (videoTick t)
    rw [← hsrc] at hbyte
    cases hbyte.symm.trans hread
    refine ⟨hwram'.trans hwram, fun i => ?_⟩
    have hi := hoam i
    simp only [Fin.getElem_fin] at hi ⊢
    simp only [hoam', Vector.getElem_set, hi, hidx, videoTick_wram, hwram]
    rcases Nat.lt_trichotomy i.val (k + 1) with hlt' | heq | hgt
    · rw [if_neg (by omega), if_pos (by omega), if_pos (by omega)]
    · rw [if_pos heq.symm, if_pos (by omega), heq]
    · rw [if_neg (by omega), if_neg (by omega), if_neg (by omega)]
  | locked _ hfault => cases huf.symm.trans hfault

/-- The run from a safe position never faults: within the transfer by the table, after it because no byte is left. -/
theorem dmaThenSteps_fault_of_safe (hf : s.fault = false) (hsafe : DmaSafeStart s.line s.col) {k : Nat}
    (h : dmaThenSteps page k s = .next t) : t.fault = false := by
  have hr := rasterInRange_of_dmaSafeStart hsafe
  have hopen := (openAt_iff_dmaSafeStart hr).2 hsafe
  induction k generalizing t with
  | zero => exact (dmaThenSteps_fault_iff hf hr (by omega) h).2 fun j hj => hopen j (by omega)
  | succ k ih =>
    obtain ⟨u, hu⟩ := dmaThenSteps_answers page k s
    by_cases hk : k + 1 < 160
    · exact (dmaThenSteps_fault_iff hf hr hk h).2 fun j hj => hopen j (by omega)
    · have hidle : 160 ≤ u.dmaIdx.toNat := by rw [dmaThenSteps_dmaIdx hf hu (ih hu)]; omega
      exact (exec_step_of_idle (ih hu) hidle ((dmaThenSteps_succ hu).symm.trans h)).1

/-- Settles O55: the run never faults, so each of its ticks adds its byte, and both counters move together. -/
theorem dmaTransferTimeline : Obligations.DmaTransferTimeline := by
  intro s page k hf hsafe hlo hhi
  obtain ⟨t, ht⟩ := dmaThenSteps_answers page k s
  have htf := dmaThenSteps_fault_of_safe hf hsafe ht
  obtain ⟨hwram, hoam⟩ : PageCopied page k s t :=
    dmaThenSteps_induction (motive := fun k t => PageCopied page k s t)
      (fun t h htf => pageCopied_of_storeDma hf hlo hhi h htf)
      (fun k t u hrun hcopied htf hstep huf => hcopied.after_step hf hlo hhi hrun htf hstep huf) ht htf
  obtain ⟨hsrc, -⟩ := transferFrom_of_dmaThenSteps hf ht htf
  exact ⟨t, ht, htf, dmaThenSteps_dmaIdx hf ht htf, hsrc, hwram, hoam⟩

end Sys2Proof.Machine
end

section
/-! PROOFS. The interrupt priority arbiter: what `IRQ_PEEK` and `IRQ_ACK` answer and change, and what successive
acknowledges answer. -/

namespace Sys2Proof.Machine

variable {s : State}

/-- Settles O43: the answer is `Select()`, which reads the two video latches and the timer's (R171). -/
theorem peekReturnsTheFirstPendingSource : Obligations.PeekReturnsTheFirstPendingSource := by
  intro s hf
  rw [exec_irqPeek hf]
  rfl

/-- An acknowledge of `r` clears the latch of `r`, if it has one, and keeps every other latch (R173, R175). -/
theorem ackSelected_eq (r : Option Source) (s : State) :
    ackSelected r s = { s with
      itVblank := s.itVblank && decide (r ≠ some .vblank)
      itLcd := s.itLcd && decide (r ≠ some .lcd)
      timer := if r = some .timer then { Config.timerAck s.timer with latch := false } else s.timer } := by
  cases r with
  | none => simp [ackSelected]
  | some src => cases src <;> simp [ackSelected, ackLatch]

/-- Settles O44: both commands answer `Select()`, and the acknowledge clears the latch of that source. -/
theorem acknowledgeClearsTheReturnedLatch : Obligations.AcknowledgeClearsTheReturnedLatch := by
  intro s hf
  refine ⟨select s, exec_irqPeek hf, ?_⟩
  rw [exec_irqAck hf, ackSelected_eq]

/-- An acknowledge answers the first pending source, or none, and leaves the others pending (R173). -/
theorem exec_irqAck_takes_head (hf : s.fault = false) :
    ∃ t, exec .irqAck s = .next t ∧ t.fault = false ∧ t.response.irq = (pendingSources s).head? ∧
      pendingSources t = (pendingSources s).tail :=
  ⟨_, exec_irqAck hf, (ackSelected_fault s _).trans hf, select_eq_head? s, pendingSources_ackSelected s⟩

/-- The answers of `n` acknowledges when the sources of `l` are pending: each source once, and then none. -/
def ackAnswers (n : Nat) (l : List Source) : List (Option Source) :=
  (l.map some ++ List.replicate n none).take n

theorem ackAnswers_zero (l : List Source) : ackAnswers 0 l = [] := rfl

theorem ackAnswers_succ (n : Nat) (l : List Source) : ackAnswers (n + 1) l = l.head? :: ackAnswers n l.tail := by
  cases l with
  | nil => simp [ackAnswers, List.replicate_succ]
  | cons x xs => simp [ackAnswers, List.take_append, List.take_replicate, Nat.add_assoc]

/-- Settles O45: each of the four acknowledges takes the first source that is still pending. -/
theorem successiveAcknowledgesReturnAllInOrder : Obligations.SuccessiveAcknowledgesReturnAllInOrder := by
  intro s hf
  obtain ⟨t1, h1, hf1, hirq1, hp1⟩ := exec_irqAck_takes_head hf
  obtain ⟨t2, h2, hf2, hirq2, hp2⟩ := exec_irqAck_takes_head hf1
  obtain ⟨t3, h3, hf3, hirq3, hp3⟩ := exec_irqAck_takes_head hf2
  obtain ⟨t4, h4, -, hirq4, -⟩ := exec_irqAck_takes_head hf3
  refine ⟨_, t1, t2, t3, t4, rfl, h1, h2, h3, h4, ?_⟩
  change [t1.response.irq, t2.response.irq, t3.response.irq, t4.response.irq] = ackAnswers 4 (pendingSources s)
  rw [hirq4, hp3, hirq3, hp2, hirq2, hp1, hirq1]
  simp only [ackAnswers_succ, ackAnswers_zero]

end Sys2Proof.Machine
end

section
/-! PROOFS. The windows of the memory map: the cartridge, internal RAM and the zero page, OAM and its gate, and the holes
in the map. -/

namespace Sys2Proof.Machine

variable {s : State} {a : Addr}

/-! ### Internal RAM and the zero page -/

/-- `set_byte` changes the byte at its offset and no other (R37). -/
theorem Memory.write_changes_one_byte (m : Memory) (o : Nat) (v : Byte) :
    Memory.byte (Memory.write m o v) o = v ∧ ∀ p, p ≠ o → Memory.byte (Memory.write m o v) p = Memory.byte m p :=
  ⟨Memory.byte_write_same m o v, fun _ hp => Memory.byte_write_other m v hp⟩

theorem exec_fetchZram (hf : s.fault = false) (ha : Target.zram.covers a = true) :
    exec (.fetchZram a) s = .next { s with response := byteResponse (Memory.byte s.zram (storeIndex 0xff80 a)) } :=
  (inWindow_of_covers ha _).trans (runFetch_of_read hf rfl)

theorem exec_storeZram (hf : s.fault = false) (ha : Target.zram.covers a = true) (v : Byte) :
    exec (.storeZram a v) s = .next { setZram (storeIndex 0xff80 a) v s with response := Response.quiet } :=
  (inWindow_of_covers ha _).trans (runStore_of_write hf rfl)

/-- Settles O19: each of the three operations is one `set_byte` at the offset of its window. -/
theorem ramWindowsStoreOneByte : Obligations.RamWindowsStoreOneByte := fun _ _ v hf =>
  ⟨fun ha => ⟨_, exec_storeWram hf ha v, Memory.write_changes_one_byte _ _ v⟩,
    fun ha => ⟨_, exec_storeEcho hf ha v, Memory.write_changes_one_byte _ _ v⟩,
    fun ha => ⟨_, exec_storeZram hf ha v, Memory.write_changes_one_byte _ _ v⟩⟩

/-- Settles O18: each of the three operations reads its store at the offset of its window. -/
theorem ramWindowsFetchTheStoredByte : Obligations.RamWindowsFetchTheStoredByte := fun _ _ hf =>
  ⟨exec_fetchWram hf, exec_fetchEcho hf, exec_fetchZram hf⟩

/-! ### The cartridge -/

/-- The cartridge gets a ROM address as it is (R193, R194, D17). -/
theorem windowOffset_rom (a : Addr) : windowOffset 0x0000 a = a := BitVec.sub_zero a

theorem exec_fetchRom (hf : s.fault = false) (ha : Target.rom.covers a = true) :
    exec (.fetchRom a) s = .next { s with response := byteResponse (Config.cartRomByte s.cart (windowOffset 0x0000 a)) } :=
  (inWindow_of_covers ha _).trans (runFetch_of_read hf rfl)

theorem exec_storeRom (hf : s.fault = false) (ha : Target.rom.covers a = true) (v : Byte) :
    exec (.storeRom a v) s = .next { writeRom a v s with response := Response.quiet } :=
  (inWindow_of_covers ha _).trans (runStore_of_write hf rfl)

/-- Settles O16: the window starts at address 0, so the cartridge's accessors get the address itself. -/
theorem romWindowReachesTheCartridge : Obligations.RomWindowReachesTheCartridge := by
  intro s a v hf ha
  rw [exec_fetchRom hf ha, exec_storeRom hf ha, writeRom, windowOffset_rom]
  exact ⟨rfl, rfl⟩

theorem exec_fetchCram (hf : s.fault = false) (ha : Target.cram.covers a = true) :
    exec (.fetchCram a) s = .next { s with response := byteResponse (Config.cartRamByte s.cart (windowOffset 0xa000 a)) } :=
  (inWindow_of_covers ha _).trans (runFetch_of_read hf rfl)

theorem exec_storeCram (hf : s.fault = false) (ha : Target.cram.covers a = true) (v : Byte) :
    exec (.storeCram a v) s = .next { writeCram a v s with response := Response.quiet } :=
  (inWindow_of_covers ha _).trans (runStore_of_write hf rfl)

/-- Settles O17: the cartridge's accessors get the offset in the window, as D17 says. -/
theorem cartridgeRamWindowReachesTheCartridge : Obligations.CartridgeRamWindowReachesTheCartridge := fun _ _ v hf ha =>
  ⟨exec_fetchCram hf ha, exec_storeCram hf ha v⟩

/-! ### OAM and its gate -/

/-- OAM is open from line 144 on, and from column 173 of every line, at positions outside the raster too (R127, R130). -/
theorem oamOpen_iff_position (s : State) : oamOpen s = true ↔ 144 ≤ s.line ∨ 173 ≤ s.col := by
  obtain ⟨hvblank, hprelude, hactive, hhblank, -⟩ := modeFollowsThePosition s
  constructor
  · rw [← Bool.not_eq_false, oamOpen_eq_false_iff]
    contrapose!
    rintro ⟨hline, hcol⟩
    by_cases hlo : s.col ≤ 79
    · exact .inl (hprelude (by bv_omega) hlo)
    · exact .inr (hactive (by bv_omega) (by bv_omega) (by bv_omega))
  · rw [oamOpen_iff]
    intro hpos
    by_cases hline : 144 ≤ s.line
    · exact .inr (hvblank hline)
    · exact .inl (hhblank (by bv_omega) (hpos.resolve_left hline))

/-- Inside the window the low byte of an address is its offset, as the window starts at a multiple of 256 (R131). -/
theorem oamIndex_of_covers (ha : Target.oam.covers a = true) : oamIndex a = storeIndex 0xfe00 a := by
  obtain ⟨hlo, hhi⟩ := inRange_iff.1 ha
  have hlow : oamIndex a = a.toNat % 256 := by
    rw [oamIndex, BitVec.toNat_and]
    exact Nat.and_two_pow_sub_one_eq_mod a.toNat 8
  rw [hlow, storeIndex, windowOffset, BitVec.toNat_sub_of_le hlo]
  simp only [BitVec.reduceToNat] at hlo hhi ⊢
  omega

theorem oamByte_of_lt {i : Nat} (h : i < 160) (s : State) : oamByte s i = s.oam[i] := dif_pos h

theorem exec_fetchOam_of_open (hf : s.fault = false) (ha : Target.oam.covers a = true) (hopen : oamOpen s = true) :
    exec (.fetchOam a) s = .next { s with response := byteResponse (oamByte s (oamIndex a)) } :=
  (inWindow_of_covers ha _).trans (runFetch_of_read hf (oamGet_of_open (s := beginCommand s) hopen a))

theorem exec_storeOam_of_open (hf : s.fault = false) (ha : Target.oam.covers a = true) (hopen : oamOpen s = true)
    (v : Byte) :
    exec (.storeOam a v) s = .next (withData 0 (setOamByte (oamIndex a) v (beginCommand s))) :=
  (inWindow_of_covers ha _).trans (runEffect_of_ok hf (oamSet_of_open (s := beginCommand s) hopen a v))

theorem exec_fetchOam_of_locked (hf : s.fault = false) (ha : Target.oam.covers a = true) (hlocked : oamOpen s = false) :
    exec (.fetchOam a) s = .next { s with fault := true, response := violationResponse .get a } :=
  (inWindow_of_covers ha _).trans (runCommand_of_stopped hf (oamGet_of_locked (s := beginCommand s) hlocked a))

theorem exec_storeOam_of_locked (hf : s.fault = false) (ha : Target.oam.covers a = true) (hlocked : oamOpen s = false)
    (v : Byte) :
    exec (.storeOam a v) s = .next { s with fault := true, response := violationResponse .set a } :=
  (inWindow_of_covers ha _).trans (runEffect_of_stopped hf (oamSet_of_locked (s := beginCommand s) hlocked a v))

/-- Settles O23: the two ranges of positions are the open and the locked gate. -/
theorem oamWindowIsGated : Obligations.OamWindowIsGated := by
  intro s a v hf ha
  refine ⟨fun hpos => ?_, fun hline hcol => ?_⟩
  · have hopen : oamOpen s = true := (oamOpen_iff_position s).2 hpos
    have hi : storeIndex 0xfe00 a < 160 := storeIndex_lt ha (by decide)
    refine ⟨hi, ?_, ?_⟩
    · rw [exec_fetchOam_of_open hf ha hopen, oamIndex_of_covers ha, oamByte_of_lt hi]
      rfl
    · rw [exec_storeOam_of_open hf ha hopen, oamIndex_of_covers ha, setOamByte_of_lt hi]
      rfl
  · have hlocked : oamOpen s = false := by
      rw [Bool.eq_false_iff, Ne, oamOpen_iff_position]
      bv_omega
    exact ⟨exec_fetchOam_of_locked hf ha hlocked, exec_storeOam_of_locked hf ha hlocked v⟩

/-! ### The holes in the map -/

/-- Settles O24: neither operation does more than `emit Diag` and answer 0. -/
theorem holesReadZeroAndIgnoreWrites : Obligations.HolesReadZeroAndIgnoreWrites := fun _ a _ hf ha =>
  ⟨(inWindow_of_covers ha _).trans (runFetch_of_ok (read := readUnmapped a) hf rfl),
    (inWindow_of_covers ha _).trans (runStore_of_ok (write := writeUnmapped a) hf)⟩

end Sys2Proof.Machine
end

section
/-! PROOFS. The I/O registers: the current line, the timer registers, the interrupt-enable register and the offsets that
no register intercepts. -/

namespace Sys2Proof.Machine

variable {s : State}

/-! ### The current line -/

/-- Settles O27: the block has the line register (`hasLy`), so the read answers `line` and the write is dropped. -/
theorem currentLineIsReadOnly : Obligations.CurrentLineIsReadOnly := fun _ v hf =>
  ⟨exec_fetchLy hf, runStore_of_write (write := writeLy v) hf rfl⟩

/-! ### The timer registers -/

/-- A store to a timer register is one call of the timer, and changes nothing else (R237 to R243). -/
theorem runStore_setTimer (hf : s.fault = false) (call : Timer → Timer) :
    runStore (fun u => setTimer (call u.timer) u) s =
      .next { s with timer := call s.timer, response := Response.quiet } :=
  runStore_of_write hf rfl

/-- Settles O29: each fetch reads one getter, each store makes one call of the timer. -/
theorem timerRegistersReachTheTimer : Obligations.TimerRegistersReachTheTimer := fun _ v hf =>
  ⟨runFetch_of_read (read := readDiv) hf rfl, runFetch_of_read (read := readTima) hf rfl,
    runFetch_of_read (read := readTma) hf rfl, runFetch_of_read (read := readTac) hf rfl,
    runStore_setTimer hf Config.timerResetDiv, runStore_setTimer hf (Config.timerSetCounter · v),
    runStore_setTimer hf (Config.timerSetModulo · v), runStore_setTimer hf (Config.timerSetConfig · v)⟩

/-! ### The interrupt-enable register -/

theorem exec_fetchIe (hf : s.fault = false) :
    exec .fetchIe s = .next { s with response := byteResponse (encodeFlags s.ie) } := runFetch_of_read hf rfl

theorem exec_storeIe (hf : s.fault = false) (v : Byte) :
    exec (.storeIe v) s = .next { s with ie := decodeFlags v, response := Response.quiet } :=
  runStore_of_write (write := writeIe v) hf rfl

/-- The peek answers `Select()`, which reads neither the serial nor the button enable (R171, R172, R176). -/
theorem exec_irqPeek_serial_button (hf : s.fault = false) (x y : Bool) :
    exec .irqPeek { s with ie := { s.ie with serial := x, button := y } } =
      .next { s with ie := { s.ie with serial := x, button := y }, response := irqResponse (select s) } := by
  have hselect : select { s with ie := { s.ie with serial := x, button := y } } = select s := rfl
  rw [exec_irqPeek (by exact hf), hselect]

/-- Settles O31: the store unpacks its byte into the flags and the read packs them, which keeps the low five bits. -/
theorem interruptEnableRoundTrip : Obligations.InterruptEnableRoundTrip := by
  intro s v hf
  refine ⟨exec_fetchIe hf, _, exec_storeIe hf v, rfl, ?_, _, exec_irqPeek_serial_button (by exact hf)⟩
  rw [exec_fetchIe (by exact hf), encodeFlags_decodeFlags]

/-! ### The shadow offsets -/

/-- The low byte of a shadow address is its offset in the I/O window (R98, R270). -/
theorem ioIndex_of_covers {a : Addr} (ha : Target.ioShadow.covers a = true) : ioIndex a = (a - 0xff00).toNat := by
  simp only [Target.covers, Bool.or_eq_true, inRange_iff, BitVec.reduceToNat] at ha
  rw [ioIndex, toNat_ioOffset]
  bv_omega

theorem exec_fetchIoShadow {a : Addr} (hf : s.fault = false) (ha : Target.ioShadow.covers a = true) :
    exec (.fetchIoShadow a) s = .next { s with response := byteResponse (Memory.byte s.ioShadow (ioIndex a)) } :=
  (inWindow_of_covers ha _).trans (runFetch_of_read hf rfl)

theorem exec_storeIoShadow {a : Addr} (hf : s.fault = false) (ha : Target.ioShadow.covers a = true) (v : Byte) :
    exec (.storeIoShadow a v) s = .next { setIoShadow (ioIndex a) v s with response := Response.quiet } :=
  (inWindow_of_covers ha _).trans (runStore_of_write hf rfl)

/-- Settles O32: the two operations read and `set_byte` the shadow array at the offset of the address. -/
theorem shadowOffsetsArePlainStorage : Obligations.ShadowOffsetsArePlainStorage := by
  intro s a v hf ha
  rw [← ioIndex_of_covers ha]
  exact ⟨exec_fetchIoShadow hf ha, _, exec_storeIoShadow hf ha v, Memory.write_changes_one_byte _ _ v⟩

end Sys2Proof.Machine
end

section
/-! PROOFS. The OAM window after a read of the current line (R330): inside one frame ticks only move the position forward,
and a line from 144 on is followed by VBlank lines alone until the frame ends. -/

namespace Sys2Proof.Machine

variable {s t : State}

/-- Before the end of the frame a `STEP` moves the position on by one, or not at all when it is refused (R121, R292). -/
theorem exec_step_rasterPos_bounds (hr : RasterInRange s) (hend : rasterPos s + 1 < 70680)
    (h : exec .step s = .next t) :
    RasterInRange t ∧ rasterPos s ≤ rasterPos t ∧ rasterPos t ≤ rasterPos s + 1 := by
  cases hf : s.fault
  case false =>
    obtain ⟨hrt, hpos⟩ := exec_step_rasterPos hf hr h
    rw [Nat.mod_eq_of_lt hend] at hpos
    exact ⟨hrt, by omega, hpos.le⟩
  case true =>
    cases (exec_of_fault rfl hf).symm.trans h
    have hpos : rasterPos (refuse s) = rasterPos s := rasterPos_congr rfl rfl
    exact ⟨hr, by omega, by omega⟩

/-- `n` ticks that cannot reach the end of the frame never move the position back, whether or not one of them faults. -/
theorem stepN_rasterPos_bounds {n : Nat} (hr : RasterInRange s) (hend : rasterPos s + n < 70680)
    (h : stepN n s = .next t) :
    RasterInRange t ∧ rasterPos s ≤ rasterPos t ∧ rasterPos t ≤ rasterPos s + n := by
  induction n generalizing t with
  | zero =>
    cases h
    exact ⟨hr, le_rfl, Nat.le_add_right _ 0⟩
  | succ k ih =>
    obtain ⟨u, hu⟩ := stepN_answers k s
    obtain ⟨hru, hlo, hhi⟩ := ih (by omega) hu
    obtain ⟨hrt, hlo', hhi'⟩ := exec_step_rasterPos_bounds hru (by omega) ((stepN_succ hu).symm.trans h)
    exact ⟨hrt, by omega, by omega⟩

/-- Settles O54: the ticks end inside the frame, at the latest at column 455 of line 154, so the position has not left
the lines from 144 on. -/
theorem oamStaysOpenAfterReadingVblankLine : Obligations.OamStaysOpenAfterReadingVblankLine := by
  intro s t n hr hline hn h
  have hvblank : 144 ≤ s.line.toNat := hline
  obtain ⟨hlast, hcol⟩ := rasterInRange_iff.1 hr
  have hstart : 144 * 456 ≤ rasterPos s := by
    unfold rasterPos
    omega
  have hend : rasterPos s + n < 70680 := by
    unfold rasterPos
    omega
  obtain ⟨hrt, hlo, -⟩ := stepN_rasterPos_bounds hr hend h
  exact (mode_vblank_iff_rasterPos hrt).2 (hstart.trans hlo)

end Sys2Proof.Machine
end

section
/-! PROOFS. Operations that no command word decodes to: an address outside its window (log 11). -/

namespace Sys2Proof.Machine

/-- Settles O15: only a windowed operation can be ill-formed, and then by its address alone; `inWindow` looks at that
address before the state, so the state, faulted or not, makes no difference. -/
theorem addressOutsideWindowStops : Obligations.AddressOutsideWindowStops := by
  intro i s hill
  exact exec_of_not_wellFormed hill s

end Sys2Proof.Machine
end
